-- ==== Sys2Proof/Word.lean ====
section
/-! DEFINITION. The widths the spec moves: bytes on the wire, 16-bit fields, 32-bit command and result words
(spec/00_scope.md R8, R10, R11; spec/30_encoding.md R110). Every value is a bit pattern with no sign (R11). -/

namespace Sys2Proof

/-- One byte of a frame or of a queue: 8 bits (R10). -/
abbrev Byte := BitVec 8

/-- One payload field: 16 bits, the only field width the block admits (R9, R146). -/
abbrev Half := BitVec 16

/-- A command word or a word on the result port: 32 bits (R110, R260). -/
abbrev Word := BitVec 32

end Sys2Proof
end

