-- ==== Sys2Proof/Machine/Catalog.lean ====
section
/-! DEFINITION. The message catalog (spec/42_message_catalog.md): the set K, the MIN_FIELDS table, and the documentary
classes, groups and names. Only K and MIN_FIELDS reach a rule of the block (R171); they are parameters of it, not state
(R30). -/

namespace Sys2Proof.Machine

/-- The code is in the catalog set K (R200): 68, 88, 89, 100 to 121, 200 to 214, 250, 254. -/
def inCatalog (code : Byte) : Bool :=
  [68, 88, 89, 250, 254].contains code.toNat || (100 ≤ code.toNat && code.toNat ≤ 121) ||
    (200 ≤ code.toNat && code.toNat ≤ 214)

/-- MIN_FIELDS(code) (R202). -/
def minFields (code : Byte) : Nat :=
  match code.toNat with
  | 102 => 9
  | 105 => 4
  | 106 => 6
  | 108 => 3
  | 109 => 2
  | 112 => 9
  | _ => 0

/-- The class of a catalog code (R203, 90_conflicts.md C5). Documentation: no rule of the block reads it. -/
inductive MessageClass where
  | telemetryQuery
  | controlCommand
  | maintenanceUnclassed
  deriving DecidableEq, Repr

/-- The group of a catalog code in the source's section 6, as the rules R210 to R251 record it. Documentation. -/
inductive MessageGroup where
  | telemetryQuery
  | controlCommand
  | maintenance
  deriving DecidableEq, Repr

/-- One line of the catalog as R210 to R251 document it. -/
structure CatalogEntry where
  code : Nat
  mnemonic : String
  messageClass : MessageClass
  group : MessageGroup
  deriving DecidableEq, Repr

/-- The 42 codes with their mnemonics, classes and groups (R203, R206, R210 to R251). -/
def catalog : List CatalogEntry := [
  ⟨68, "MSP_REBOOT", .controlCommand, .maintenance⟩,
  ⟨88, "MSP_VTX_CONFIG", .maintenanceUnclassed, .maintenance⟩,
  ⟨89, "MSP_VTX_CONFIG_89", .maintenanceUnclassed, .maintenance⟩,
  ⟨100, "MSP_IDENT", .telemetryQuery, .telemetryQuery⟩,
  ⟨101, "MSP_STATUS", .telemetryQuery, .telemetryQuery⟩,
  ⟨102, "MSP_RAW_IMU", .telemetryQuery, .telemetryQuery⟩,
  ⟨103, "MSP_SERVO", .telemetryQuery, .telemetryQuery⟩,
  ⟨104, "MSP_MOTOR", .telemetryQuery, .telemetryQuery⟩,
  ⟨105, "MSP_RC", .telemetryQuery, .telemetryQuery⟩,
  ⟨106, "MSP_RAW_GPS", .telemetryQuery, .telemetryQuery⟩,
  ⟨107, "MSP_COMP_GPS", .telemetryQuery, .telemetryQuery⟩,
  ⟨108, "MSP_ATTITUDE", .telemetryQuery, .telemetryQuery⟩,
  ⟨109, "MSP_ALTITUDE", .telemetryQuery, .telemetryQuery⟩,
  ⟨110, "MSP_ANALOG", .telemetryQuery, .telemetryQuery⟩,
  ⟨111, "MSP_RC_TUNING", .telemetryQuery, .telemetryQuery⟩,
  ⟨112, "MSP_PID", .telemetryQuery, .telemetryQuery⟩,
  ⟨113, "MSP_BOX", .telemetryQuery, .telemetryQuery⟩,
  ⟨114, "MSP_MISC", .telemetryQuery, .telemetryQuery⟩,
  ⟨115, "MSP_CODE_115", .telemetryQuery, .telemetryQuery⟩,
  ⟨116, "MSP_BOXNAMES", .telemetryQuery, .telemetryQuery⟩,
  ⟨117, "MSP_PIDNAMES", .telemetryQuery, .telemetryQuery⟩,
  ⟨118, "MSP_WP", .telemetryQuery, .telemetryQuery⟩,
  ⟨119, "MSP_BOXIDS", .telemetryQuery, .telemetryQuery⟩,
  ⟨120, "MSP_CODE_120", .telemetryQuery, .telemetryQuery⟩,
  ⟨121, "MSP_CODE_121", .telemetryQuery, .telemetryQuery⟩,
  ⟨200, "MSP_SET_RAW_RC", .controlCommand, .controlCommand⟩,
  ⟨201, "MSP_CODE_201", .controlCommand, .controlCommand⟩,
  ⟨202, "MSP_SET_PID", .controlCommand, .controlCommand⟩,
  ⟨203, "MSP_SET_BOX", .controlCommand, .controlCommand⟩,
  ⟨204, "MSP_SET_RC_TUNING", .controlCommand, .controlCommand⟩,
  ⟨205, "MSP_ACC_CALIBRATION", .controlCommand, .controlCommand⟩,
  ⟨206, "MSP_MAG_CALIBRATION", .controlCommand, .controlCommand⟩,
  ⟨207, "MSP_CODE_207", .controlCommand, .controlCommand⟩,
  ⟨208, "MSP_RESET_CONF", .controlCommand, .controlCommand⟩,
  ⟨209, "MSP_SET_WP", .controlCommand, .controlCommand⟩,
  ⟨210, "MSP_SWITCH_RC_SERIAL", .controlCommand, .controlCommand⟩,
  ⟨211, "MSP_CODE_211", .controlCommand, .controlCommand⟩,
  ⟨212, "MSP_CODE_212", .controlCommand, .controlCommand⟩,
  ⟨213, "MSP_CODE_213", .controlCommand, .controlCommand⟩,
  ⟨214, "MSP_SET_MOTOR", .controlCommand, .controlCommand⟩,
  ⟨250, "MSP_EEPROM_WRITE", .controlCommand, .maintenance⟩,
  ⟨254, "MSP_DEBUG", .maintenanceUnclassed, .maintenance⟩]

/-- The catalog's line for a code. -/
def catalogEntry (code : Byte) : Option CatalogEntry := catalog.find? fun e => e.code = code.toNat

/-- The code a catalog mnemonic names (R130, R206). -/
def codeOfMnemonic (name : String) : Option Nat := (catalog.find? fun e => e.mnemonic = name).map (·.code)

end Sys2Proof.Machine
end

