-- ==== Sys2Proof/Config.lean ====
section
/-! DEFINITION. What is fixed for the machine: the parameters of spec/00_scope.md R8 and R9 with the values given
there, and the one parameter the spec leaves open. No rule of the block leaves a value open (spec/93, part 1), so
there is no free value here. -/

namespace Sys2Proof

/-- CFG.ACCEPT (R46): which direction byte the decoder takes as the third marker byte. The reserved value 3 cannot be
written (R46, R266), so it has no constructor (log entry 8). -/
inductive AcceptMode where
  /-- value 0: `'<'` or `'>'` -/
  | any
  /-- value 1: `'>'` only -/
  | rsp
  /-- value 2: `'<'` only -/
  | req
  deriving DecidableEq, Repr

/-- The third marker byte of a frame (R100, R104); also CFG.ENCDIR (R47). -/
inductive Direction where
  /-- `'<'`, CFG.ENCDIR value 0 -/
  | request
  /-- `'>'`, CFG.ENCDIR value 1 -/
  | response
  deriving DecidableEq, Repr

/-- MAX_FIELDS: the size of ENC_FIELDS and RX_FIELDS, and the largest encodable field count (R8, R9). -/
abbrev Config.maxFields : Nat := 127

/-- The size of DEC_BUF in bytes: offsets 0 to 254 exist (R38, R70). -/
abbrev Config.decBufSize : Nat := 255

/-- CFG.ACCEPT at reset: 0, ANY (R9, R46, R340). -/
def Config.acceptReset : AcceptMode := .any

/-- CFG.ENCDIR at reset: 0, request (R9, R47, R340). -/
def Config.encdirReset : Direction := .request

/-- P_T_EXCHANGE in milliseconds: the bound the HOST puts on one exchange. The spec leaves its value open and suggests
about one second (R9, R320); it is a parameter of the environment, which no rule of the block reads. It has no body, so no
statement can rest on a value of it (log entry 14). -/
opaque Config.exchangeTimeoutMs : Nat

end Sys2Proof
end

