-- ==== Sys2Proof/Syntax.lean ====
section
/-! DEFINITION. Syntax: one constructor per row of spec/opcode_table.json, 11 command rows and 42 frame rows. -/

namespace Sys2Proof

/-- The instructions of the block. A command row is one 32-bit word of the HOST (spec/30_encoding.md R111). A frame row is a
whole wire frame with that message code (R100; spec/42_message_catalog.md): its operands are the direction byte and the
payload bytes, and it is what the DECODER executes on a checksum-valid frame (log entry 5). -/
inductive Instr where
  /-- NOP (R261). -/
  | nop
  /-- ENCODE CODE, N (R142). -/
  | encode (code : Byte) (n : Byte)
  /-- DECODE (R160). -/
  | decode
  /-- FLUSH TX, RX (R262). -/
  | flush (tx : Bool) (rx : Bool)
  /-- ABORT (R263). -/
  | abort
  /-- RESET (R264). -/
  | reset
  /-- SETCFG ACCEPT, ENCDIR (R266); ACCEPT = 3 is illegal (R121). -/
  | setcfg (accept : BitVec 2) (encdir : Direction)
  /-- WFIELD IDX, VALUE (R141); IDX = 127 is illegal (R121). -/
  | wfield (idx : BitVec 7) (value : Half)
  /-- RFIELD IDX (R267); IDX = 127 is illegal (R121). -/
  | rfield (idx : BitVec 7)
  /-- RSTATUS (R268). -/
  | rstatus
  /-- RINFO (R269). -/
  | rinfo
  /-- MSP_REBOOT, code 68 (R210). -/
  | mspReboot (dir : Direction) (payload : List Byte)
  /-- MSP_VTX_CONFIG, code 88 (R211). -/
  | mspVtxConfig (dir : Direction) (payload : List Byte)
  /-- MSP_VTX_CONFIG_89, code 89 (R212). -/
  | mspVtxConfig89 (dir : Direction) (payload : List Byte)
  /-- MSP_IDENT, code 100 (R213). -/
  | mspIdent (dir : Direction) (payload : List Byte)
  /-- MSP_STATUS, code 101 (R214). -/
  | mspStatus (dir : Direction) (payload : List Byte)
  /-- MSP_RAW_IMU, code 102 (R215). -/
  | mspRawImu (dir : Direction) (payload : List Byte)
  /-- MSP_SERVO, code 103 (R216). -/
  | mspServo (dir : Direction) (payload : List Byte)
  /-- MSP_MOTOR, code 104 (R217). -/
  | mspMotor (dir : Direction) (payload : List Byte)
  /-- MSP_RC, code 105 (R218). -/
  | mspRc (dir : Direction) (payload : List Byte)
  /-- MSP_RAW_GPS, code 106 (R219). -/
  | mspRawGps (dir : Direction) (payload : List Byte)
  /-- MSP_COMP_GPS, code 107 (R220). -/
  | mspCompGps (dir : Direction) (payload : List Byte)
  /-- MSP_ATTITUDE, code 108 (R221). -/
  | mspAttitude (dir : Direction) (payload : List Byte)
  /-- MSP_ALTITUDE, code 109 (R222). -/
  | mspAltitude (dir : Direction) (payload : List Byte)
  /-- MSP_ANALOG, code 110 (R223). -/
  | mspAnalog (dir : Direction) (payload : List Byte)
  /-- MSP_RC_TUNING, code 111 (R224). -/
  | mspRcTuning (dir : Direction) (payload : List Byte)
  /-- MSP_PID, code 112 (R225). -/
  | mspPid (dir : Direction) (payload : List Byte)
  /-- MSP_BOX, code 113 (R226). -/
  | mspBox (dir : Direction) (payload : List Byte)
  /-- MSP_MISC, code 114 (R227). -/
  | mspMisc (dir : Direction) (payload : List Byte)
  /-- MSP_CODE_115, code 115 (R228). -/
  | mspCode115 (dir : Direction) (payload : List Byte)
  /-- MSP_BOXNAMES, code 116 (R229). -/
  | mspBoxnames (dir : Direction) (payload : List Byte)
  /-- MSP_PIDNAMES, code 117 (R230). -/
  | mspPidnames (dir : Direction) (payload : List Byte)
  /-- MSP_WP, code 118 (R231). -/
  | mspWp (dir : Direction) (payload : List Byte)
  /-- MSP_BOXIDS, code 119 (R232). -/
  | mspBoxids (dir : Direction) (payload : List Byte)
  /-- MSP_CODE_120, code 120 (R233). -/
  | mspCode120 (dir : Direction) (payload : List Byte)
  /-- MSP_CODE_121, code 121 (R234). -/
  | mspCode121 (dir : Direction) (payload : List Byte)
  /-- MSP_SET_RAW_RC, code 200 (R235). -/
  | mspSetRawRc (dir : Direction) (payload : List Byte)
  /-- MSP_CODE_201, code 201 (R236). -/
  | mspCode201 (dir : Direction) (payload : List Byte)
  /-- MSP_SET_PID, code 202 (R237). -/
  | mspSetPid (dir : Direction) (payload : List Byte)
  /-- MSP_SET_BOX, code 203 (R238). -/
  | mspSetBox (dir : Direction) (payload : List Byte)
  /-- MSP_SET_RC_TUNING, code 204 (R239). -/
  | mspSetRcTuning (dir : Direction) (payload : List Byte)
  /-- MSP_ACC_CALIBRATION, code 205 (R240). -/
  | mspAccCalibration (dir : Direction) (payload : List Byte)
  /-- MSP_MAG_CALIBRATION, code 206 (R241). -/
  | mspMagCalibration (dir : Direction) (payload : List Byte)
  /-- MSP_CODE_207, code 207 (R242). -/
  | mspCode207 (dir : Direction) (payload : List Byte)
  /-- MSP_RESET_CONF, code 208 (R243). -/
  | mspResetConf (dir : Direction) (payload : List Byte)
  /-- MSP_SET_WP, code 209 (R244). -/
  | mspSetWp (dir : Direction) (payload : List Byte)
  /-- MSP_SWITCH_RC_SERIAL, code 210 (R245). -/
  | mspSwitchRcSerial (dir : Direction) (payload : List Byte)
  /-- MSP_CODE_211, code 211 (R246). -/
  | mspCode211 (dir : Direction) (payload : List Byte)
  /-- MSP_CODE_212, code 212 (R247). -/
  | mspCode212 (dir : Direction) (payload : List Byte)
  /-- MSP_CODE_213, code 213 (R248). -/
  | mspCode213 (dir : Direction) (payload : List Byte)
  /-- MSP_SET_MOTOR, code 214 (R249). -/
  | mspSetMotor (dir : Direction) (payload : List Byte)
  /-- MSP_EEPROM_WRITE, code 250 (R250). -/
  | mspEepromWrite (dir : Direction) (payload : List Byte)
  /-- MSP_DEBUG, code 254 (R251). -/
  | mspDebug (dir : Direction) (payload : List Byte)
  deriving DecidableEq, Repr

end Sys2Proof
end

