-- ==== Sys2Proof/WellFormed.lean ====
section
/-! DEFINITION. Which instruction terms the encodings of spec/30_encoding.md can carry. -/

namespace Sys2Proof

/-- An index of ENC_FIELDS or RX_FIELDS: 0 to 126; 127 is reserved (R70, R121 (c)). -/
def fieldIndexOk (idx : BitVec 7) : Bool := idx.toNat < Config.maxFields

/-- An ACCEPT operand: 0 to 2; 3 is reserved (R46, R121 (d)). -/
def acceptOk (accept : BitVec 2) : Bool := accept.toNat < 3

/-- A payload whose length fits the length byte: 0 to 255 bytes (R8, R100). -/
def payloadOk (payload : List Byte) : Bool := payload.length ≤ 255

/-- The instruction has an encoding: every operand lies in the range R113 and R100 give it. -/
def Instr.wellFormed : Instr → Bool
  | .nop => true
  | .encode _ _ => true
  | .decode => true
  | .flush _ _ => true
  | .abort => true
  | .reset => true
  | .setcfg accept _ => acceptOk accept
  | .wfield idx _ => fieldIndexOk idx
  | .rfield idx => fieldIndexOk idx
  | .rstatus => true
  | .rinfo => true
  | .mspReboot _ payload => payloadOk payload
  | .mspVtxConfig _ payload => payloadOk payload
  | .mspVtxConfig89 _ payload => payloadOk payload
  | .mspIdent _ payload => payloadOk payload
  | .mspStatus _ payload => payloadOk payload
  | .mspRawImu _ payload => payloadOk payload
  | .mspServo _ payload => payloadOk payload
  | .mspMotor _ payload => payloadOk payload
  | .mspRc _ payload => payloadOk payload
  | .mspRawGps _ payload => payloadOk payload
  | .mspCompGps _ payload => payloadOk payload
  | .mspAttitude _ payload => payloadOk payload
  | .mspAltitude _ payload => payloadOk payload
  | .mspAnalog _ payload => payloadOk payload
  | .mspRcTuning _ payload => payloadOk payload
  | .mspPid _ payload => payloadOk payload
  | .mspBox _ payload => payloadOk payload
  | .mspMisc _ payload => payloadOk payload
  | .mspCode115 _ payload => payloadOk payload
  | .mspBoxnames _ payload => payloadOk payload
  | .mspPidnames _ payload => payloadOk payload
  | .mspWp _ payload => payloadOk payload
  | .mspBoxids _ payload => payloadOk payload
  | .mspCode120 _ payload => payloadOk payload
  | .mspCode121 _ payload => payloadOk payload
  | .mspSetRawRc _ payload => payloadOk payload
  | .mspCode201 _ payload => payloadOk payload
  | .mspSetPid _ payload => payloadOk payload
  | .mspSetBox _ payload => payloadOk payload
  | .mspSetRcTuning _ payload => payloadOk payload
  | .mspAccCalibration _ payload => payloadOk payload
  | .mspMagCalibration _ payload => payloadOk payload
  | .mspCode207 _ payload => payloadOk payload
  | .mspResetConf _ payload => payloadOk payload
  | .mspSetWp _ payload => payloadOk payload
  | .mspSwitchRcSerial _ payload => payloadOk payload
  | .mspCode211 _ payload => payloadOk payload
  | .mspCode212 _ payload => payloadOk payload
  | .mspCode213 _ payload => payloadOk payload
  | .mspSetMotor _ payload => payloadOk payload
  | .mspEepromWrite _ payload => payloadOk payload
  | .mspDebug _ payload => payloadOk payload

end Sys2Proof
end

