-- ==== Sys2Proof/Decode.lean ====
section
/-! DEFINITION. The two encodings of spec/30_encoding.md: the 32-bit host command word (R110 to R123) and the wire frame
(R100 to R105). Each has a decoder, total on any input and rejecting by name, and after it an encoder written from the
same tables. -/

namespace Sys2Proof

/-! ## Bit fields of a command word (R110, R112, R113) -/

/-- OP = `w[3:0]`. -/
def opField (w : Word) : BitVec 4 := w.extractLsb' 0 4
/-- `w[7:4]`, reserved in every format (R110). -/
def lowReserved (w : Word) : BitVec 4 := w.extractLsb' 4 4
/-- `w[31:8]`, the operands. -/
def operandField (w : Word) : BitVec 24 := w.extractLsb' 8 24
/-- CODE = `w[15:8]`. -/
def codeField (w : Word) : Byte := w.extractLsb' 8 8
/-- N = `w[23:16]`. -/
def countField (w : Word) : Byte := w.extractLsb' 16 8
/-- `w[31:24]`, reserved in format CE. -/
def ceReserved (w : Word) : Byte := w.extractLsb' 24 8
/-- RX = `w[8]`. -/
def rxField (w : Word) : Bool := w.getLsbD 8
/-- TX = `w[9]`. -/
def txField (w : Word) : Bool := w.getLsbD 9
/-- `w[31:10]`, reserved in format CF. -/
def cfReserved (w : Word) : BitVec 22 := w.extractLsb' 10 22
/-- ACCEPT = `w[9:8]`. -/
def acceptField (w : Word) : BitVec 2 := w.extractLsb' 8 2
/-- ENCDIR = `w[10]`. -/
def encdirField (w : Word) : Bool := w.getLsbD 10
/-- `w[31:11]`, reserved in format CS. -/
def csReserved (w : Word) : BitVec 21 := w.extractLsb' 11 21
/-- IDX = `w[14:8]`. -/
def idxField (w : Word) : BitVec 7 := w.extractLsb' 8 7
/-- `w[15]`, reserved in formats CW and CR. -/
def idxReserved (w : Word) : Bool := w.getLsbD 15
/-- VALUE = `w[31:16]`. -/
def valueField (w : Word) : Half := w.extractLsb' 16 16

/-- ENCDIR's value as a direction: 0 request, 1 response (R47). -/
def directionOfBit (b : Bool) : Direction := if b then .response else .request
/-- The bit that holds a direction in CFG.ENCDIR (R47). -/
def directionBit : Direction → Bool
  | .request => false
  | .response => true

/-! ## The command decoder -/

/-- Why an encoding is refused, by name. The first four are the illegal command words of R121; the others say why a byte
sequence is not exactly one frame of a catalog code (R100, R200). -/
inductive Reject where
  /-- R121 (a): OP is 0xB to 0xF. -/
  | reservedOp
  /-- R121 (b): a bit marked 0 in the format's pattern is 1. -/
  | reservedBit
  /-- R121 (c): WFIELD or RFIELD with IDX = 127. -/
  | fieldIndex127
  /-- R121 (d): SETCFG with ACCEPT = 3. -/
  | acceptReserved
  /-- The first three bytes are no start marker (R100). -/
  | noMarker
  /-- Fewer than `6 + L` bytes (R103). -/
  | truncated
  /-- The checksum byte is not the XOR of the length, code and payload bytes (R101). -/
  | badChecksum
  /-- The code is outside the catalog, so no row of the table stands for it (R105, R200). -/
  | uncataloguedCode
  /-- Bytes follow the frame. -/
  | trailingBytes
  deriving DecidableEq, Repr

/-- A word of format CN (R112): all of `w[31:4]` is 0, else it is illegal. -/
def noOperands (w : Word) (i : Instr) : Except Reject Instr :=
  if operandField w = 0 ∧ lowReserved w = 0 then .ok i else .error .reservedBit

/-- The command decoder: every word selects one command with its operands or is illegal (R111, R112, R113, R121, R123). -/
def decodeCommand (w : Word) : Except Reject Instr :=
  match (opField w).toNat with
  | 0x0 => noOperands w .nop
  | 0x1 =>
    if ceReserved w = 0 ∧ lowReserved w = 0 then .ok (.encode (codeField w) (countField w)) else .error .reservedBit
  | 0x2 => noOperands w .decode
  | 0x3 =>
    if cfReserved w = 0 ∧ lowReserved w = 0 then .ok (.flush (txField w) (rxField w)) else .error .reservedBit
  | 0x4 => noOperands w .abort
  | 0x5 => noOperands w .reset
  | 0x6 =>
    if csReserved w = 0 ∧ lowReserved w = 0 then
      if acceptOk (acceptField w) then .ok (.setcfg (acceptField w) (directionOfBit (encdirField w)))
      else .error .acceptReserved
    else .error .reservedBit
  | 0x7 =>
    if idxReserved w = false ∧ lowReserved w = 0 then
      if fieldIndexOk (idxField w) then .ok (.wfield (idxField w) (valueField w)) else .error .fieldIndex127
    else .error .reservedBit
  | 0x8 =>
    if valueField w = 0 ∧ idxReserved w = false ∧ lowReserved w = 0 then
      if fieldIndexOk (idxField w) then .ok (.rfield (idxField w)) else .error .fieldIndex127
    else .error .reservedBit
  | 0x9 => noOperands w .rstatus
  | 0xA => noOperands w .rinfo
  | _ => .error .reservedOp

/-! ## Checksum and frame bytes (R100, R101, R140, R143) -/

/-- `Checksum(L, code, p)`: successive XOR of the length byte, the code byte and the payload bytes (R140). -/
def checksum (len code : Byte) (payload : List Byte) : Byte :=
  payload.foldl (fun c b => c ^^^ b) ((0x00 ^^^ len) ^^^ code)

/-- The byte of a direction: `'<'` = 0x3C, `'>'` = 0x3E (R13, R100). -/
def directionByte : Direction → Byte
  | .request => 0x3C
  | .response => 0x3E

/-- The direction a third marker byte names, if it is one (R100). -/
def directionOfByte (b : Byte) : Option Direction :=
  if b = 0x3C then some .request else if b = 0x3E then some .response else none

/-- `f[7:0]` (R72). -/
def lowByte (f : Half) : Byte := f.extractLsb' 0 8
/-- `f[15:8]` (R72). -/
def highByte (f : Half) : Byte := f.extractLsb' 8 8

/-- The payload bytes of a field list, little-endian, in field order (R72, R143). -/
def fieldBytes : List Half → List Byte
  | [] => []
  | f :: fs => lowByte f :: highByte f :: fieldBytes fs

/-- The bytes of a frame with direction byte `dir`, code and payload, in wire order (R100, R101). -/
def wireFrame (dir code : Byte) (payload : List Byte) : List Byte :=
  [0x24, 0x4D, dir, BitVec.ofNat 8 payload.length, code] ++ payload ++
    [checksum (BitVec.ofNat 8 payload.length) code payload]

/-- `Frame(dir, code, f)`: the frame that carries the 16-bit fields `f` (R143). -/
def frameOfFields (dir code : Byte) (f : List Half) : List Byte := wireFrame dir code (fieldBytes f)

/-! ## Frame rows and their codes -/

/-- A frame as the wire carries it: any code is legal there (R105). -/
structure ParsedFrame where
  /-- byte 2 -/
  dir : Direction
  /-- byte 4 -/
  code : Byte
  /-- bytes 5 to 4 + L -/
  payload : List Byte
  deriving DecidableEq, Repr

/-- The frame row that stands for a message code, if the code is in the catalog (spec/42_message_catalog.md R210 to
R251). -/
def frameInstr (code : Byte) (dir : Direction) (payload : List Byte) : Option Instr :=
  match code.toNat with
  | 68 => some (.mspReboot dir payload)
  | 88 => some (.mspVtxConfig dir payload)
  | 89 => some (.mspVtxConfig89 dir payload)
  | 100 => some (.mspIdent dir payload)
  | 101 => some (.mspStatus dir payload)
  | 102 => some (.mspRawImu dir payload)
  | 103 => some (.mspServo dir payload)
  | 104 => some (.mspMotor dir payload)
  | 105 => some (.mspRc dir payload)
  | 106 => some (.mspRawGps dir payload)
  | 107 => some (.mspCompGps dir payload)
  | 108 => some (.mspAttitude dir payload)
  | 109 => some (.mspAltitude dir payload)
  | 110 => some (.mspAnalog dir payload)
  | 111 => some (.mspRcTuning dir payload)
  | 112 => some (.mspPid dir payload)
  | 113 => some (.mspBox dir payload)
  | 114 => some (.mspMisc dir payload)
  | 115 => some (.mspCode115 dir payload)
  | 116 => some (.mspBoxnames dir payload)
  | 117 => some (.mspPidnames dir payload)
  | 118 => some (.mspWp dir payload)
  | 119 => some (.mspBoxids dir payload)
  | 120 => some (.mspCode120 dir payload)
  | 121 => some (.mspCode121 dir payload)
  | 200 => some (.mspSetRawRc dir payload)
  | 201 => some (.mspCode201 dir payload)
  | 202 => some (.mspSetPid dir payload)
  | 203 => some (.mspSetBox dir payload)
  | 204 => some (.mspSetRcTuning dir payload)
  | 205 => some (.mspAccCalibration dir payload)
  | 206 => some (.mspMagCalibration dir payload)
  | 207 => some (.mspCode207 dir payload)
  | 208 => some (.mspResetConf dir payload)
  | 209 => some (.mspSetWp dir payload)
  | 210 => some (.mspSwitchRcSerial dir payload)
  | 211 => some (.mspCode211 dir payload)
  | 212 => some (.mspCode212 dir payload)
  | 213 => some (.mspCode213 dir payload)
  | 214 => some (.mspSetMotor dir payload)
  | 250 => some (.mspEepromWrite dir payload)
  | 254 => some (.mspDebug dir payload)
  | _ => none

/-- One frame at the head of a byte list, and the bytes after its checksum (R100, R103). -/
def parseFrame : List Byte → Except Reject (ParsedFrame × List Byte)
  | b0 :: b1 :: b2 :: len :: code :: rest =>
    if b0 = 0x24 ∧ b1 = 0x4D then
      match directionOfByte b2 with
      | none => .error .noMarker
      | some dir =>
        match rest.drop len.toNat with
        | [] => .error .truncated
        | k :: after =>
          if k = checksum len code (rest.take len.toNat) then .ok (⟨dir, code, rest.take len.toNat⟩, after)
          else .error .badChecksum
    else .error .noMarker
  | _ => .error .truncated

/-- The frame row that a byte list spells: exactly one checksum-valid frame of a catalog code. -/
def decodeFrame (bytes : List Byte) : Except Reject Instr :=
  match parseFrame bytes with
  | .error r => .error r
  | .ok (_, _ :: _) => .error .trailingBytes
  | .ok (f, []) =>
    match frameInstr f.code f.dir f.payload with
    | some i => .ok i
    | none => .error .uncataloguedCode

/-! ## Both encodings together, and the encoder -/

/-- What an instruction is written as: one command word, or the bytes of one frame. -/
inductive Encoding where
  | command (w : Word)
  | frame (bytes : List Byte)
  deriving DecidableEq, Repr

/-- The decoder, total on every word and every byte list. -/
def decode : Encoding → Except Reject Instr
  | .command w => decodeCommand w
  | .frame bytes => decodeFrame bytes

/-- Format CN with opcode `op` (R112). -/
def wordCN (op : BitVec 4) : Word := (0#24 ++ 0#4 ++ op : BitVec 32)
/-- Format CE: ENCODE (R112). -/
def wordCE (code n : Byte) : Word := (0#8 ++ n ++ code ++ 0#4 ++ 0x1#4 : BitVec 32)
/-- Format CF: FLUSH (R112). -/
def wordCF (tx rx : Bool) : Word := (0#22 ++ BitVec.ofBool tx ++ BitVec.ofBool rx ++ 0#4 ++ 0x3#4 : BitVec 32)
/-- Format CS: SETCFG (R112). -/
def wordCS (accept : BitVec 2) (encdir : Direction) : Word :=
  (0#21 ++ BitVec.ofBool (directionBit encdir) ++ accept ++ 0#4 ++ 0x6#4 : BitVec 32)
/-- Format CW: WFIELD (R112). -/
def wordCW (idx : BitVec 7) (value : Half) : Word := (value ++ 0#1 ++ idx ++ 0#4 ++ 0x7#4 : BitVec 32)
/-- Format CR: RFIELD (R112). -/
def wordCR (idx : BitVec 7) : Word := (0#16 ++ 0#1 ++ idx ++ 0#4 ++ 0x8#4 : BitVec 32)

/-- The encoder: the word of a command (R111, R112), the bytes of a frame (R100). -/
def encode : Instr → Encoding
  | .nop => .command (wordCN 0x0)
  | .encode code n => .command (wordCE code n)
  | .decode => .command (wordCN 0x2)
  | .flush tx rx => .command (wordCF tx rx)
  | .abort => .command (wordCN 0x4)
  | .reset => .command (wordCN 0x5)
  | .setcfg accept encdir => .command (wordCS accept encdir)
  | .wfield idx value => .command (wordCW idx value)
  | .rfield idx => .command (wordCR idx)
  | .rstatus => .command (wordCN 0x9)
  | .rinfo => .command (wordCN 0xA)
  | .mspReboot dir payload => .frame (wireFrame (directionByte dir) 0x44 payload)
  | .mspVtxConfig dir payload => .frame (wireFrame (directionByte dir) 0x58 payload)
  | .mspVtxConfig89 dir payload => .frame (wireFrame (directionByte dir) 0x59 payload)
  | .mspIdent dir payload => .frame (wireFrame (directionByte dir) 0x64 payload)
  | .mspStatus dir payload => .frame (wireFrame (directionByte dir) 0x65 payload)
  | .mspRawImu dir payload => .frame (wireFrame (directionByte dir) 0x66 payload)
  | .mspServo dir payload => .frame (wireFrame (directionByte dir) 0x67 payload)
  | .mspMotor dir payload => .frame (wireFrame (directionByte dir) 0x68 payload)
  | .mspRc dir payload => .frame (wireFrame (directionByte dir) 0x69 payload)
  | .mspRawGps dir payload => .frame (wireFrame (directionByte dir) 0x6A payload)
  | .mspCompGps dir payload => .frame (wireFrame (directionByte dir) 0x6B payload)
  | .mspAttitude dir payload => .frame (wireFrame (directionByte dir) 0x6C payload)
  | .mspAltitude dir payload => .frame (wireFrame (directionByte dir) 0x6D payload)
  | .mspAnalog dir payload => .frame (wireFrame (directionByte dir) 0x6E payload)
  | .mspRcTuning dir payload => .frame (wireFrame (directionByte dir) 0x6F payload)
  | .mspPid dir payload => .frame (wireFrame (directionByte dir) 0x70 payload)
  | .mspBox dir payload => .frame (wireFrame (directionByte dir) 0x71 payload)
  | .mspMisc dir payload => .frame (wireFrame (directionByte dir) 0x72 payload)
  | .mspCode115 dir payload => .frame (wireFrame (directionByte dir) 0x73 payload)
  | .mspBoxnames dir payload => .frame (wireFrame (directionByte dir) 0x74 payload)
  | .mspPidnames dir payload => .frame (wireFrame (directionByte dir) 0x75 payload)
  | .mspWp dir payload => .frame (wireFrame (directionByte dir) 0x76 payload)
  | .mspBoxids dir payload => .frame (wireFrame (directionByte dir) 0x77 payload)
  | .mspCode120 dir payload => .frame (wireFrame (directionByte dir) 0x78 payload)
  | .mspCode121 dir payload => .frame (wireFrame (directionByte dir) 0x79 payload)
  | .mspSetRawRc dir payload => .frame (wireFrame (directionByte dir) 0xC8 payload)
  | .mspCode201 dir payload => .frame (wireFrame (directionByte dir) 0xC9 payload)
  | .mspSetPid dir payload => .frame (wireFrame (directionByte dir) 0xCA payload)
  | .mspSetBox dir payload => .frame (wireFrame (directionByte dir) 0xCB payload)
  | .mspSetRcTuning dir payload => .frame (wireFrame (directionByte dir) 0xCC payload)
  | .mspAccCalibration dir payload => .frame (wireFrame (directionByte dir) 0xCD payload)
  | .mspMagCalibration dir payload => .frame (wireFrame (directionByte dir) 0xCE payload)
  | .mspCode207 dir payload => .frame (wireFrame (directionByte dir) 0xCF payload)
  | .mspResetConf dir payload => .frame (wireFrame (directionByte dir) 0xD0 payload)
  | .mspSetWp dir payload => .frame (wireFrame (directionByte dir) 0xD1 payload)
  | .mspSwitchRcSerial dir payload => .frame (wireFrame (directionByte dir) 0xD2 payload)
  | .mspCode211 dir payload => .frame (wireFrame (directionByte dir) 0xD3 payload)
  | .mspCode212 dir payload => .frame (wireFrame (directionByte dir) 0xD4 payload)
  | .mspCode213 dir payload => .frame (wireFrame (directionByte dir) 0xD5 payload)
  | .mspSetMotor dir payload => .frame (wireFrame (directionByte dir) 0xD6 payload)
  | .mspEepromWrite dir payload => .frame (wireFrame (directionByte dir) 0xFA payload)
  | .mspDebug dir payload => .frame (wireFrame (directionByte dir) 0xFE payload)

/-- What the decoder reads from an opcode-table row's bits. A command row's bits are the command word. A frame row's 8 bits
are its code byte, frame byte 4; its operands at zero are the request direction (value 0 of R47) and an empty payload, and
the frame around them is the one R100 gives (log entry 6). -/
def decodeTableWord (nbits w : Nat) : Option Instr :=
  if nbits ≤ 8 then
    if w < 256 then (decode (.frame (wireFrame (directionByte .request) (BitVec.ofNat 8 w) []))).toOption else none
  else if w < 4294967296 then (decode (.command (BitVec.ofNat 32 w))).toOption
  else none

end Sys2Proof
end

