-- ==== Sys2Proof/Machine/State.lean ====
section
/-! DEFINITION. State: everything spec/10_state.md R30 gives the block, the result port (R260), and the schedule that
stands for the parameters of the step relation (R30, R80; log entry 1). Plain data throughout. -/

namespace Sys2Proof.Machine

/-- PHASE (R32): the progress of the decoder through a frame. -/
inductive Phase where
  /-- 0: no DECODE in progress -/
  | idle
  /-- 1: awaiting `'$'` -/
  | hunt
  /-- 2: `'$'` seen, awaiting `'M'` -/
  | gotS
  /-- 3: `'$','M'` seen, awaiting an accepted direction byte -/
  | gotM
  /-- 4: marker found, awaiting the length byte -/
  | len
  /-- 5: awaiting the code byte -/
  | code
  /-- 6: awaiting payload byte DEC_CNT of DEC_LEN -/
  | payload
  /-- 7: awaiting the checksum byte -/
  | chk
  deriving DecidableEq, Repr

/-- ERR (R43, R300): the outcome of the last operation that records one. Codes 6 to 15 are never written, so they have no
constructor (log entry 8). -/
inductive ErrKind where
  /-- 0 -/
  | ok
  /-- 1 -/
  | checksumMismatch
  /-- 2 -/
  | timeout
  /-- 3 -/
  | malformedSequence
  /-- 4 -/
  | streamUnavailable
  /-- 5 -/
  | lengthOverflow
  deriving DecidableEq, Repr

/-- An item of RXQ (R48): a received byte, or the end of the stream. -/
inductive RxItem where
  | byte (b : Byte)
  | eos
  deriving DecidableEq, Repr

/-- One event (R14, R307): a step of one agent, or the stream-error input. -/
inductive Event where
  /-- HOST issues this command word (R110). -/
  | host (w : Word)
  /-- DECODER takes its step, if it has one (R161). -/
  | decoder
  /-- TRANSPORT sends the head byte of TXQ, if there is one (R49). -/
  | send
  /-- TRANSPORT appends an item to RXQ (R48). -/
  | receive (x : RxItem)
  /-- TRANSPORT fires the stream-error input (R304). -/
  | streamError
  deriving DecidableEq, Repr

/-- The contents of a byte-addressed store: (offset, byte) cells in rising order of offset, none of them 0x00, which is
what an unlisted offset reads as (R38: reset contents all 0x00; log entry 10). -/
structure Memory where
  cells : List Host.Cell
  deriving DecidableEq, Repr

/-- The state of the block. -/
structure State where
  /-- PHASE, 3 bits (R32) -/
  phase : Phase
  /-- DEC_LEN (R33) -/
  decLen : Byte
  /-- DEC_CODE (R34) -/
  decCode : Byte
  /-- DEC_DIR (R35) -/
  decDir : Byte
  /-- DEC_CNT (R36) -/
  decCnt : Byte
  /-- DEC_CSUM (R37) -/
  decCsum : Byte
  /-- DEC_BUF, offsets 0 to 254 (R38, R70) -/
  decBuf : Memory
  /-- ENC_FIELDS (R39) -/
  encFields : Vector Half 127
  /-- RX_FIELDS (R40) -/
  rxFields : Vector Half 127
  /-- RX_CODE (R41) -/
  rxCode : Byte
  /-- RX_LEN (R41) -/
  rxLen : Byte
  /-- RX_DIR (R41) -/
  rxDir : Byte
  /-- RX_TAIL (R41) -/
  rxTail : Byte
  /-- ERR, 4 bits (R43) -/
  err : ErrKind
  /-- UNKNOWN (R44) -/
  unknown : Bool
  /-- SHORT (R44) -/
  short : Bool
  /-- ODD (R44) -/
  odd : Bool
  /-- F_ILLEGAL (R45) -/
  fIllegal : Bool
  /-- F_REENTRY (R45) -/
  fReentry : Bool
  /-- CFG.ACCEPT, 2 bits (R46) -/
  cfgAccept : AcceptMode
  /-- CFG.ENCDIR (R47) -/
  cfgEncdir : Direction
  /-- RXQ, head first (R48) -/
  rxq : List RxItem
  /-- TXQ, head first (R49) -/
  txq : List Byte
  /-- The result port: the value the last command placed there, if it placed one (R260, R340; log entry 4) -/
  resultPort : Option Word
  /-- The MODEL's own field: the events still to come, next first (log entry 1) -/
  events : List Event
  deriving DecidableEq, Repr

/-- Why the machine itself stops. No error of the spec does: those are next states with ERR or a fault bit written (R309). -/
inductive Fault where
  /-- Raised by the decoder in phase PAYLOAD when DEC_CNT is an offset DEC_BUF does not have (R38, R70: offsets 0 to 254).
  No reachable state does so (R36). Safe: the model stops where the spec describes nothing (log entry 9). -/
  | noSuchOffset (offset : Nat)
  deriving DecidableEq, Repr

/-- Why an instruction has no outcome. -/
inductive Refusal where
  /-- Raised by an arm of `exec` for an instruction that has no meaning yet; no arm does so now. Safe. -/
  | notModelled (mnemonic : String)
  deriving DecidableEq, Repr

/-- ResetState() (R340), also the state at power-on (R341), with no event scheduled. -/
def State.reset : State where
  phase := .idle
  decLen := 0x00
  decCode := 0x00
  decDir := 0x00
  decCnt := 0x00
  decCsum := 0x00
  decBuf := ⟨[]⟩
  encFields := Vector.replicate 127 0x0000
  rxFields := Vector.replicate 127 0x0000
  rxCode := 0x00
  rxLen := 0x00
  rxDir := 0x00
  rxTail := 0x00
  err := .ok
  unknown := false
  short := false
  odd := false
  fIllegal := false
  fReentry := false
  cfgAccept := Config.acceptReset
  cfgEncdir := Config.encdirReset
  rxq := []
  txq := []
  resultPort := none
  events := []

end Sys2Proof.Machine
end

