-- ==== Sys2Proof/Machine/Operands.lean ====
section
/-! DEFINITION. Operand forms: how the operands of commands and the bytes of a payload are read. -/

namespace Sys2Proof.Machine

/-- An ACCEPT operand as a mode; 3 is no mode (R46, R266). -/
def acceptOfBits (a : BitVec 2) : Option AcceptMode :=
  match a.toNat with
  | 0 => some .any
  | 1 => some .rsp
  | 2 => some .req
  | _ => none

/-- The bits of CFG.ACCEPT (R46). -/
def acceptBits : AcceptMode → BitVec 2
  | .any => 0
  | .rsp => 1
  | .req => 2

/-- `Accept(b)` (R162): the decoder takes `b` as the third marker byte. -/
def accepts (mode : AcceptMode) (b : Byte) : Bool :=
  match mode with
  | .any => b = 0x3C || b = 0x3E
  | .rsp => b = 0x3E
  | .req => b = 0x3C

/-- Byte `i` of a payload. -/
def payloadByte (payload : List Byte) (i : Nat) : Byte := payload.getD i 0x00

/-- Field `i` of a payload: `{p[2i+1], p[2i]}`, little-endian (R72, R75, R102). -/
def payloadField (payload : List Byte) (i : Nat) : Half := payloadByte payload (2 * i + 1) ++ payloadByte payload (2 * i)

/-- The field count of a payload: `floor(L/2)` (R8, R75). -/
def fieldCount (payload : List Byte) : Nat := payload.length / 2

/-- RX_FIELDS as the commit of a payload leaves it: the fields, and 0x0000 at and above the field count (R40, R171).
Irreducible, so that comparing two states never unfolds 127 entries; `committedFields_getElem` is its lemma. -/
@[irreducible] def committedFields (payload : List Byte) : Vector Half 127 :=
  Vector.ofFn fun i => if i.val < fieldCount payload then payloadField payload i.val else 0x0000

/-- RX_TAIL as the commit of a payload leaves it: the last byte of an odd payload, else 0x00 (R41, R171). -/
def committedTail (payload : List Byte) : Byte :=
  if payload.length % 2 = 1 then payloadByte payload (payload.length - 1) else 0x00

/-- The first `n` encoder fields, in index order (R142). -/
def State.sendFields (s : State) (n : Nat) : List Half := s.encFields.toList.take n

end Sys2Proof.Machine
end

