-- ==== Sys2Proof/Machine/Flags.lean ====
section
/-! DEFINITION. The flags, and the STATUS and INFO words computed from the registers. -/

namespace Sys2Proof.Machine

/-- BUSY: PHASE is not IDLE (R32). -/
def State.busy (s : State) : Bool := s.phase ≠ .idle

/-- UNKNOWN as a commit leaves it: the code is outside the catalog (R44, R171). -/
def unknownFlag (code : Byte) : Bool := !inCatalog code

/-- SHORT as a commit leaves it: fewer fields than MIN_FIELDS of the code (R44, R171). -/
def shortFlag (code : Byte) (payload : List Byte) : Bool := fieldCount payload < minFields code

/-- ODD as a commit leaves it: the length is odd (R44, R171). -/
def oddFlag (payload : List Byte) : Bool := payload.length % 2 = 1

/-- The value of PHASE (R32). -/
def phaseBits : Phase → BitVec 3
  | .idle => 0
  | .hunt => 1
  | .gotS => 2
  | .gotM => 3
  | .len => 4
  | .code => 5
  | .payload => 6
  | .chk => 7

/-- The value of ERR (R300). -/
def errBits : ErrKind → BitVec 4
  | .ok => 0
  | .checksumMismatch => 1
  | .timeout => 2
  | .malformedSequence => 3
  | .streamUnavailable => 4
  | .lengthOverflow => 5

/-- The STATUS word, from bit 31 down (R50). -/
def State.statusWord (s : State) : Word :=
  (0#9 ++ BitVec.ofBool (directionBit s.cfgEncdir) ++ acceptBits s.cfgAccept ++ 0#1 ++ phaseBits s.phase ++ 0#4 ++
    BitVec.ofBool s.txq.isEmpty ++ BitVec.ofBool s.rxq.isEmpty ++ BitVec.ofBool s.fReentry ++ BitVec.ofBool s.fIllegal ++
    BitVec.ofBool s.odd ++ BitVec.ofBool s.short ++ BitVec.ofBool s.unknown ++ BitVec.ofBool s.busy ++
    errBits s.err : BitVec 32)

/-- The INFO word: `{RX_TAIL, RX_DIR, RX_LEN, RX_CODE}` (R51). -/
def State.infoWord (s : State) : Word := (s.rxTail ++ s.rxDir ++ s.rxLen ++ s.rxCode : BitVec 32)

end Sys2Proof.Machine
end

