-- ==== Sys2Proof/Machine/Ops.lean ====
section
/-! DEFINITION. The named operations over the stores, the queues and the registers: the pseudocode primitives of R12, the
two recording procedures (R303, R306: the block has no trap entry and no trap return, R309, R310), ResetState (R340), and
the commit (R171). -/

namespace Sys2Proof.Machine

/-! ## DEC_BUF (R38, R70) -/

/-- What an offset that is not listed reads as (R38). -/
def unlistedByte : Byte := 0x00

/-- The byte at an offset of a cell list. -/
def readCells : List Host.Cell → Nat → Byte
  | [], _ => unlistedByte
  | (k, v) :: t, a => if k = a then v else readCells t a

/-- The cell list with the byte at one offset replaced, in canonical form. -/
def writeCells : List Host.Cell → Nat → Byte → List Host.Cell
  | [], a, b => if b = unlistedByte then [] else [(a, b)]
  | (k, v) :: t, a, b =>
    if a < k then (if b = unlistedByte then (k, v) :: t else (a, b) :: (k, v) :: t)
    else if a = k then (if b = unlistedByte then t else (a, b) :: t)
    else (k, v) :: writeCells t a b

/-- Offsets rise strictly from `lo`, all of them exist, and none reads as an unlisted one. -/
def cellsWf (lo : Nat) : List Host.Cell → Bool
  | [] => true
  | (k, v) :: t => decide (lo ≤ k) && decide (k < Config.decBufSize) && decide (v ≠ unlistedByte) && cellsWf (k + 1) t

/-- The memory is in its canonical form (log entry 10). -/
def Memory.wf (m : Memory) : Bool := cellsWf 0 m.cells

/-- `MemRead(a, 1)` (R12). -/
def Memory.read (m : Memory) (a : Nat) : Byte := readCells m.cells a

/-- `MemWrite(a, 1, b)` (R12); none where DEC_BUF has no offset `a` (R70). -/
def Memory.write? (m : Memory) (a : Nat) (b : Byte) : Option Memory :=
  if a < Config.decBufSize then some ⟨writeCells m.cells a b⟩ else none

/-- The bytes at offsets 0 to `n - 1`. -/
def Memory.firstBytes (m : Memory) (n : Nat) : List Byte := (List.range n).map m.read

/-- The payload of the frame in progress once its DEC_LEN bytes are read. -/
def State.decPayload (s : State) : List Byte := s.decBuf.firstBytes s.decLen.toNat

/-! ## Recording (R303, R306) -/

/-- `ERR <- code(k)` (R303). -/
def State.setErr (s : State) (k : ErrKind) : State := { s with err := k }

/-- `PHASE <- p` (R12). -/
def State.setPhase (s : State) (p : Phase) : State := { s with phase := p }

/-- `fault F_ILLEGAL` (R121, R306). -/
def State.faultIllegal (s : State) : State := { s with fIllegal := true }

/-- `fault F_REENTRY` (R305, R306). -/
def State.faultReentry (s : State) : State := { s with fReentry := true }

/-- A command that needs an idle decoder: refused with F_REENTRY while BUSY, else run (R305). -/
def State.whenIdle (s : State) (run : Host.Outcome State Fault Refusal) : Host.Outcome State Fault Refusal :=
  if s.busy then .next s.faultReentry else run

/-! ## Ports and queues -/

/-- `Respond(v)`: the value is on the result port (R12, R260). -/
def State.respond (s : State) (v : Word) : State := { s with resultPort := some v }

/-- The HOST has received the pending value before it issues its next command (R260; log entry 4). -/
def State.takeResult (s : State) : State := { s with resultPort := none }

/-- `TxPush` of each byte in turn (R12, R142). -/
def State.txPush (s : State) (bytes : List Byte) : State := { s with txq := s.txq ++ bytes }

/-- `RXQ <- empty` and `TXQ <- empty` for the selected directions (R262). -/
def State.flushQueues (s : State) (tx rx : Bool) : State :=
  { s with rxq := if rx then [] else s.rxq, txq := if tx then [] else s.txq }

/-! ## Registers a command writes -/

/-- `ENC_FIELDS[IDX] <- VALUE` for an index that exists (R141). -/
def State.setEncField (s : State) (i : Nat) (h : i < 127) (v : Half) : State :=
  { s with encFields := s.encFields.set i v h }

/-- `CFG.ACCEPT <- a`, `CFG.ENCDIR <- d` (R266). -/
def State.setConfig (s : State) (a : AcceptMode) (d : Direction) : State := { s with cfgAccept := a, cfgEncdir := d }

/-- ResetState() (R340). The schedule is the environment's, not the block's, and stays (log entry 13). -/
def State.resetState (s : State) : State := { State.reset with events := s.events }

/-! ## Commit (R171) -/

/-- `Commit()` of a frame: every result register and frame flag in one step (R42, R171). -/
def State.commit (s : State) (dir code : Byte) (payload : List Byte) : State :=
  { s with
    rxFields := committedFields payload
    rxCode := code
    rxLen := BitVec.ofNat 8 payload.length
    rxDir := dir
    rxTail := committedTail payload
    odd := oddFlag payload
    unknown := unknownFlag code
    short := shortFlag code payload }

/-- Phase CHK with a matching checksum byte: the commit, then `ERR <- 0` and `PHASE <- IDLE` (R169). -/
def State.acceptFrame (s : State) (dir code : Byte) (payload : List Byte) : State :=
  ((s.commit dir code payload).setErr .ok).setPhase .idle

end Sys2Proof.Machine
end

