-- ==== Sys2Proof/Machine/Codec.lean ====
section
/-! DEFINITION. The codec commands: WFIELD and ENCODE (spec/40_frame_encode.md), DECODE (spec/41_frame_decode.md R160). The
checks stand in the order of R308: legality, BUSY, the command's own error. -/

namespace Sys2Proof.Machine

/-- WFIELD (R141). Allowed while BUSY; IDX = 127 is illegal. -/
def execWfield (idx : BitVec 7) (value : Half) (s : State) : Host.Outcome State Fault Refusal :=
  if h : idx.toNat < 127 then .next (s.setEncField idx.toNat h value) else .next s.faultIllegal

/-- ENCODE (R142): refused while BUSY, LengthOverflow for N > 127, else the whole frame enters TXQ in one step. -/
def execEncode (code n : Byte) (s : State) : Host.Outcome State Fault Refusal :=
  s.whenIdle <|
    if n.toNat > Config.maxFields then .next (s.setErr .lengthOverflow)
    else .next ((s.txPush (frameOfFields (directionByte s.cfgEncdir) code (s.sendFields n.toNat))).setErr .ok)

/-- DECODE (R160): refused while BUSY, else ERR is cleared and the decoder armed. -/
def execDecode (s : State) : Host.Outcome State Fault Refusal :=
  s.whenIdle (.next ((s.setErr .ok).setPhase .hunt))

end Sys2Proof.Machine
end

