-- ==== Sys2Proof/Machine/Control.lean ====
section
/-! DEFINITION. Session control and result commands (spec/43_session_control.md R260 to R269). -/

namespace Sys2Proof.Machine

/-- NOP (R261). -/
def execNop (s : State) : Host.Outcome State Fault Refusal := .next s

/-- FLUSH (R262): refused while BUSY; discards the selected queues, EOS items included; ERR unchanged. -/
def execFlush (tx rx : Bool) (s : State) : Host.Outcome State Fault Refusal := s.whenIdle (.next (s.flushQueues tx rx))

/-- ABORT (R263): while BUSY records Timeout and abandons the frame; while IDLE does nothing. -/
def execAbort (s : State) : Host.Outcome State Fault Refusal :=
  if s.busy then .next ((s.setErr .timeout).setPhase .idle) else .next s

/-- RESET (R264): ResetState(), also while BUSY. -/
def execReset (s : State) : Host.Outcome State Fault Refusal := .next s.resetState

/-- SETCFG (R266): ACCEPT = 3 is illegal and leaves both fields; refused while BUSY. -/
def execSetcfg (accept : BitVec 2) (encdir : Direction) (s : State) : Host.Outcome State Fault Refusal :=
  match acceptOfBits accept with
  | none => .next s.faultIllegal
  | some a => s.whenIdle (.next (s.setConfig a encdir))

/-- RFIELD (R267): one committed field, zero-extended; IDX = 127 is illegal and gives no result. -/
def execRfield (idx : BitVec 7) (s : State) : Host.Outcome State Fault Refusal :=
  if h : idx.toNat < 127 then .next (s.respond (s.rxFields[idx.toNat].setWidth 32)) else .next s.faultIllegal

/-- RSTATUS (R268): the STATUS word. -/
def execRstatus (s : State) : Host.Outcome State Fault Refusal := .next (s.respond s.statusWord)

/-- RINFO (R269): the INFO word. -/
def execRinfo (s : State) : Host.Outcome State Fault Refusal := .next (s.respond s.infoWord)

end Sys2Proof.Machine
end

