-- ==== Sys2Proof/Machine/ControlFrames.lean ====
section
/-! DEFINITION. The control-command frames, codes 200 to 214 (spec/42_message_catalog.md R235 to R249). Each is what the DECODER
executes when the checksum byte of a frame with that code matches (R169): the commit with the code's own UNKNOWN and SHORT
(R171, R200, R202), ERR <- 0, PHASE <- IDLE (log entry 5). Units and scales are the consumer's (R204). -/

namespace Sys2Proof.Machine

/-- MSP_SET_RAW_RC, code 200 (R235); payload fields for the consumer: the RC Override Vector: roll, pitch, yaw, throttle and four auxiliary channels, in an order the spec does not state. -/
def execMspSetRawRc (dir : Direction) (payload : List Byte) (s : State) : Host.Outcome State Fault Refusal :=
  .next (s.acceptFrame (directionByte dir) 0xC8 payload)

/-- MSP_CODE_201, code 201 (R236). -/
def execMspCode201 (dir : Direction) (payload : List Byte) (s : State) : Host.Outcome State Fault Refusal :=
  .next (s.acceptFrame (directionByte dir) 0xC9 payload)

/-- MSP_SET_PID, code 202 (R237); payload fields for the consumer: PID coefficients, opaque. -/
def execMspSetPid (dir : Direction) (payload : List Byte) (s : State) : Host.Outcome State Fault Refusal :=
  .next (s.acceptFrame (directionByte dir) 0xCA payload)

/-- MSP_SET_BOX, code 203 (R238). -/
def execMspSetBox (dir : Direction) (payload : List Byte) (s : State) : Host.Outcome State Fault Refusal :=
  .next (s.acceptFrame (directionByte dir) 0xCB payload)

/-- MSP_SET_RC_TUNING, code 204 (R239). -/
def execMspSetRcTuning (dir : Direction) (payload : List Byte) (s : State) : Host.Outcome State Fault Refusal :=
  .next (s.acceptFrame (directionByte dir) 0xCC payload)

/-- MSP_ACC_CALIBRATION, code 205 (R240). -/
def execMspAccCalibration (dir : Direction) (payload : List Byte) (s : State) : Host.Outcome State Fault Refusal :=
  .next (s.acceptFrame (directionByte dir) 0xCD payload)

/-- MSP_MAG_CALIBRATION, code 206 (R241). -/
def execMspMagCalibration (dir : Direction) (payload : List Byte) (s : State) : Host.Outcome State Fault Refusal :=
  .next (s.acceptFrame (directionByte dir) 0xCE payload)

/-- MSP_CODE_207, code 207 (R242). -/
def execMspCode207 (dir : Direction) (payload : List Byte) (s : State) : Host.Outcome State Fault Refusal :=
  .next (s.acceptFrame (directionByte dir) 0xCF payload)

/-- MSP_RESET_CONF, code 208 (R243). -/
def execMspResetConf (dir : Direction) (payload : List Byte) (s : State) : Host.Outcome State Fault Refusal :=
  .next (s.acceptFrame (directionByte dir) 0xD0 payload)

/-- MSP_SET_WP, code 209 (R244). -/
def execMspSetWp (dir : Direction) (payload : List Byte) (s : State) : Host.Outcome State Fault Refusal :=
  .next (s.acceptFrame (directionByte dir) 0xD1 payload)

/-- MSP_SWITCH_RC_SERIAL, code 210 (R245). -/
def execMspSwitchRcSerial (dir : Direction) (payload : List Byte) (s : State) : Host.Outcome State Fault Refusal :=
  .next (s.acceptFrame (directionByte dir) 0xD2 payload)

/-- MSP_CODE_211, code 211 (R246). -/
def execMspCode211 (dir : Direction) (payload : List Byte) (s : State) : Host.Outcome State Fault Refusal :=
  .next (s.acceptFrame (directionByte dir) 0xD3 payload)

/-- MSP_CODE_212, code 212 (R247). -/
def execMspCode212 (dir : Direction) (payload : List Byte) (s : State) : Host.Outcome State Fault Refusal :=
  .next (s.acceptFrame (directionByte dir) 0xD4 payload)

/-- MSP_CODE_213, code 213 (R248). -/
def execMspCode213 (dir : Direction) (payload : List Byte) (s : State) : Host.Outcome State Fault Refusal :=
  .next (s.acceptFrame (directionByte dir) 0xD5 payload)

/-- MSP_SET_MOTOR, code 214 (R249). -/
def execMspSetMotor (dir : Direction) (payload : List Byte) (s : State) : Host.Outcome State Fault Refusal :=
  .next (s.acceptFrame (directionByte dir) 0xD6 payload)

end Sys2Proof.Machine
end

