-- ==== Sys2Proof/Machine/Maintenance.lean ====
section
/-! DEFINITION. The maintenance frames, codes 68, 88, 89, 250 and 254 (spec/42_message_catalog.md R210 to R212, R250, R251). Each is what the DECODER
executes when the checksum byte of a frame with that code matches (R169): the commit with the code's own UNKNOWN and SHORT
(R171, R200, R202), ERR <- 0, PHASE <- IDLE (log entry 5). Units and scales are the consumer's (R204). -/

namespace Sys2Proof.Machine

/-- MSP_REBOOT, code 68 (R210). -/
def execMspReboot (dir : Direction) (payload : List Byte) (s : State) : Host.Outcome State Fault Refusal :=
  .next (s.acceptFrame (directionByte dir) 0x44 payload)

/-- MSP_VTX_CONFIG, code 88 (R211). -/
def execMspVtxConfig (dir : Direction) (payload : List Byte) (s : State) : Host.Outcome State Fault Refusal :=
  .next (s.acceptFrame (directionByte dir) 0x58 payload)

/-- MSP_VTX_CONFIG_89, code 89 (R212). -/
def execMspVtxConfig89 (dir : Direction) (payload : List Byte) (s : State) : Host.Outcome State Fault Refusal :=
  .next (s.acceptFrame (directionByte dir) 0x59 payload)

/-- MSP_EEPROM_WRITE, code 250 (R250). -/
def execMspEepromWrite (dir : Direction) (payload : List Byte) (s : State) : Host.Outcome State Fault Refusal :=
  .next (s.acceptFrame (directionByte dir) 0xFA payload)

/-- MSP_DEBUG, code 254 (R251). -/
def execMspDebug (dir : Direction) (payload : List Byte) (s : State) : Host.Outcome State Fault Refusal :=
  .next (s.acceptFrame (directionByte dir) 0xFE payload)

end Sys2Proof.Machine
end

