-- ==== Sys2Proof/Machine/Telemetry.lean ====
section
/-! DEFINITION. The telemetry-query frames, codes 100 to 121 (spec/42_message_catalog.md R213 to R234). Each is what the DECODER
executes when the checksum byte of a frame with that code matches (R169): the commit with the code's own UNKNOWN and SHORT
(R171, R200, R202), ERR <- 0, PHASE <- IDLE (log entry 5). Units and scales are the consumer's (R204). -/

namespace Sys2Proof.Machine

/-- MSP_IDENT, code 100 (R213). -/
def execMspIdent (dir : Direction) (payload : List Byte) (s : State) : Host.Outcome State Fault Refusal :=
  .next (s.acceptFrame (directionByte dir) 0x64 payload)

/-- MSP_STATUS, code 101 (R214). -/
def execMspStatus (dir : Direction) (payload : List Byte) (s : State) : Host.Outcome State Fault Refusal :=
  .next (s.acceptFrame (directionByte dir) 0x65 payload)

/-- MSP_RAW_IMU, code 102 (R215); payload fields for the consumer: nine raw axis values: accel x, y, z, gyro x, y, z, mag x, y, z. MIN_FIELDS = 9. -/
def execMspRawImu (dir : Direction) (payload : List Byte) (s : State) : Host.Outcome State Fault Refusal :=
  .next (s.acceptFrame (directionByte dir) 0x66 payload)

/-- MSP_SERVO, code 103 (R216). -/
def execMspServo (dir : Direction) (payload : List Byte) (s : State) : Host.Outcome State Fault Refusal :=
  .next (s.acceptFrame (directionByte dir) 0x67 payload)

/-- MSP_MOTOR, code 104 (R217); payload fields for the consumer: up to eight motor output values. -/
def execMspMotor (dir : Direction) (payload : List Byte) (s : State) : Host.Outcome State Fault Refusal :=
  .next (s.acceptFrame (directionByte dir) 0x68 payload)

/-- MSP_RC, code 105 (R218); payload fields for the consumer: roll, pitch, yaw, throttle. MIN_FIELDS = 4. -/
def execMspRc (dir : Direction) (payload : List Byte) (s : State) : Host.Outcome State Fault Refusal :=
  .next (s.acceptFrame (directionByte dir) 0x69 payload)

/-- MSP_RAW_GPS, code 106 (R219); payload fields for the consumer: fix, satellite count, latitude, longitude, altitude, speed (course shares the speed field). MIN_FIELDS = 6. -/
def execMspRawGps (dir : Direction) (payload : List Byte) (s : State) : Host.Outcome State Fault Refusal :=
  .next (s.acceptFrame (directionByte dir) 0x6A payload)

/-- MSP_COMP_GPS, code 107 (R220). -/
def execMspCompGps (dir : Direction) (payload : List Byte) (s : State) : Host.Outcome State Fault Refusal :=
  .next (s.acceptFrame (directionByte dir) 0x6B payload)

/-- MSP_ATTITUDE, code 108 (R221); payload fields for the consumer: angle-x, angle-y (tenths of a degree), heading (whole degrees). MIN_FIELDS = 3. -/
def execMspAttitude (dir : Direction) (payload : List Byte) (s : State) : Host.Outcome State Fault Refusal :=
  .next (s.acceptFrame (directionByte dir) 0x6C payload)

/-- MSP_ALTITUDE, code 109 (R222); payload fields for the consumer: estimated altitude, variometer rate. MIN_FIELDS = 2. -/
def execMspAltitude (dir : Direction) (payload : List Byte) (s : State) : Host.Outcome State Fault Refusal :=
  .next (s.acceptFrame (directionByte dir) 0x6D payload)

/-- MSP_ANALOG, code 110 (R223). -/
def execMspAnalog (dir : Direction) (payload : List Byte) (s : State) : Host.Outcome State Fault Refusal :=
  .next (s.acceptFrame (directionByte dir) 0x6E payload)

/-- MSP_RC_TUNING, code 111 (R224). -/
def execMspRcTuning (dir : Direction) (payload : List Byte) (s : State) : Host.Outcome State Fault Refusal :=
  .next (s.acceptFrame (directionByte dir) 0x6F payload)

/-- MSP_PID, code 112 (R225); payload fields for the consumer: nine coefficients: roll, pitch, yaw, each P (tenths), I (thousandths), D. MIN_FIELDS = 9. -/
def execMspPid (dir : Direction) (payload : List Byte) (s : State) : Host.Outcome State Fault Refusal :=
  .next (s.acceptFrame (directionByte dir) 0x70 payload)

/-- MSP_BOX, code 113 (R226). -/
def execMspBox (dir : Direction) (payload : List Byte) (s : State) : Host.Outcome State Fault Refusal :=
  .next (s.acceptFrame (directionByte dir) 0x71 payload)

/-- MSP_MISC, code 114 (R227). -/
def execMspMisc (dir : Direction) (payload : List Byte) (s : State) : Host.Outcome State Fault Refusal :=
  .next (s.acceptFrame (directionByte dir) 0x72 payload)

/-- MSP_CODE_115, code 115 (R228). -/
def execMspCode115 (dir : Direction) (payload : List Byte) (s : State) : Host.Outcome State Fault Refusal :=
  .next (s.acceptFrame (directionByte dir) 0x73 payload)

/-- MSP_BOXNAMES, code 116 (R229). -/
def execMspBoxnames (dir : Direction) (payload : List Byte) (s : State) : Host.Outcome State Fault Refusal :=
  .next (s.acceptFrame (directionByte dir) 0x74 payload)

/-- MSP_PIDNAMES, code 117 (R230). -/
def execMspPidnames (dir : Direction) (payload : List Byte) (s : State) : Host.Outcome State Fault Refusal :=
  .next (s.acceptFrame (directionByte dir) 0x75 payload)

/-- MSP_WP, code 118 (R231). -/
def execMspWp (dir : Direction) (payload : List Byte) (s : State) : Host.Outcome State Fault Refusal :=
  .next (s.acceptFrame (directionByte dir) 0x76 payload)

/-- MSP_BOXIDS, code 119 (R232). -/
def execMspBoxids (dir : Direction) (payload : List Byte) (s : State) : Host.Outcome State Fault Refusal :=
  .next (s.acceptFrame (directionByte dir) 0x77 payload)

/-- MSP_CODE_120, code 120 (R233). -/
def execMspCode120 (dir : Direction) (payload : List Byte) (s : State) : Host.Outcome State Fault Refusal :=
  .next (s.acceptFrame (directionByte dir) 0x78 payload)

/-- MSP_CODE_121, code 121 (R234). -/
def execMspCode121 (dir : Direction) (payload : List Byte) (s : State) : Host.Outcome State Fault Refusal :=
  .next (s.acceptFrame (directionByte dir) 0x79 payload)

end Sys2Proof.Machine
end

