-- ==== Sys2Proof/Machine/Dispatch.lean ====
section
/-! DEFINITION. Dispatch: one arm per constructor of Instr, each one direct call of its meaning. -/

namespace Sys2Proof.Machine

def exec (i : Instr) (s : State) : Host.Outcome State Fault Refusal :=
  match i with
  | .nop => Sys2Proof.Machine.execNop s
  | .encode code n => Sys2Proof.Machine.execEncode code n s
  | .decode => Sys2Proof.Machine.execDecode s
  | .flush tx rx => Sys2Proof.Machine.execFlush tx rx s
  | .abort => Sys2Proof.Machine.execAbort s
  | .reset => Sys2Proof.Machine.execReset s
  | .setcfg accept encdir => Sys2Proof.Machine.execSetcfg accept encdir s
  | .wfield idx value => Sys2Proof.Machine.execWfield idx value s
  | .rfield idx => Sys2Proof.Machine.execRfield idx s
  | .rstatus => Sys2Proof.Machine.execRstatus s
  | .rinfo => Sys2Proof.Machine.execRinfo s
  | .mspReboot dir payload => Sys2Proof.Machine.execMspReboot dir payload s
  | .mspVtxConfig dir payload => Sys2Proof.Machine.execMspVtxConfig dir payload s
  | .mspVtxConfig89 dir payload => Sys2Proof.Machine.execMspVtxConfig89 dir payload s
  | .mspIdent dir payload => Sys2Proof.Machine.execMspIdent dir payload s
  | .mspStatus dir payload => Sys2Proof.Machine.execMspStatus dir payload s
  | .mspRawImu dir payload => Sys2Proof.Machine.execMspRawImu dir payload s
  | .mspServo dir payload => Sys2Proof.Machine.execMspServo dir payload s
  | .mspMotor dir payload => Sys2Proof.Machine.execMspMotor dir payload s
  | .mspRc dir payload => Sys2Proof.Machine.execMspRc dir payload s
  | .mspRawGps dir payload => Sys2Proof.Machine.execMspRawGps dir payload s
  | .mspCompGps dir payload => Sys2Proof.Machine.execMspCompGps dir payload s
  | .mspAttitude dir payload => Sys2Proof.Machine.execMspAttitude dir payload s
  | .mspAltitude dir payload => Sys2Proof.Machine.execMspAltitude dir payload s
  | .mspAnalog dir payload => Sys2Proof.Machine.execMspAnalog dir payload s
  | .mspRcTuning dir payload => Sys2Proof.Machine.execMspRcTuning dir payload s
  | .mspPid dir payload => Sys2Proof.Machine.execMspPid dir payload s
  | .mspBox dir payload => Sys2Proof.Machine.execMspBox dir payload s
  | .mspMisc dir payload => Sys2Proof.Machine.execMspMisc dir payload s
  | .mspCode115 dir payload => Sys2Proof.Machine.execMspCode115 dir payload s
  | .mspBoxnames dir payload => Sys2Proof.Machine.execMspBoxnames dir payload s
  | .mspPidnames dir payload => Sys2Proof.Machine.execMspPidnames dir payload s
  | .mspWp dir payload => Sys2Proof.Machine.execMspWp dir payload s
  | .mspBoxids dir payload => Sys2Proof.Machine.execMspBoxids dir payload s
  | .mspCode120 dir payload => Sys2Proof.Machine.execMspCode120 dir payload s
  | .mspCode121 dir payload => Sys2Proof.Machine.execMspCode121 dir payload s
  | .mspSetRawRc dir payload => Sys2Proof.Machine.execMspSetRawRc dir payload s
  | .mspCode201 dir payload => Sys2Proof.Machine.execMspCode201 dir payload s
  | .mspSetPid dir payload => Sys2Proof.Machine.execMspSetPid dir payload s
  | .mspSetBox dir payload => Sys2Proof.Machine.execMspSetBox dir payload s
  | .mspSetRcTuning dir payload => Sys2Proof.Machine.execMspSetRcTuning dir payload s
  | .mspAccCalibration dir payload => Sys2Proof.Machine.execMspAccCalibration dir payload s
  | .mspMagCalibration dir payload => Sys2Proof.Machine.execMspMagCalibration dir payload s
  | .mspCode207 dir payload => Sys2Proof.Machine.execMspCode207 dir payload s
  | .mspResetConf dir payload => Sys2Proof.Machine.execMspResetConf dir payload s
  | .mspSetWp dir payload => Sys2Proof.Machine.execMspSetWp dir payload s
  | .mspSwitchRcSerial dir payload => Sys2Proof.Machine.execMspSwitchRcSerial dir payload s
  | .mspCode211 dir payload => Sys2Proof.Machine.execMspCode211 dir payload s
  | .mspCode212 dir payload => Sys2Proof.Machine.execMspCode212 dir payload s
  | .mspCode213 dir payload => Sys2Proof.Machine.execMspCode213 dir payload s
  | .mspSetMotor dir payload => Sys2Proof.Machine.execMspSetMotor dir payload s
  | .mspEepromWrite dir payload => Sys2Proof.Machine.execMspEepromWrite dir payload s
  | .mspDebug dir payload => Sys2Proof.Machine.execMspDebug dir payload s

end Sys2Proof.Machine
end

