-- ==== Sys2Proof/Machine/Decoder.lean ====
section
/-! DEFINITION. The DECODER agent (spec/41_frame_decode.md R161 to R173): one RXQ item per step, one rule per phase. -/

namespace Sys2Proof.Machine

/-- Phase HUNT (R163). -/
def huntByte (b : Byte) (s : State) : State := if b = 0x24 then s.setPhase .gotS else s.setPhase .hunt

/-- Phase GOT_S (R164). -/
def gotSByte (b : Byte) (s : State) : State :=
  if b = 0x4D then s.setPhase .gotM else if b = 0x24 then s.setPhase .gotS else s.setPhase .hunt

/-- Phase GOT_M (R165). -/
def gotMByte (b : Byte) (s : State) : State :=
  if accepts s.cfgAccept b then { s with decDir := b, phase := .len }
  else if b = 0x24 then s.setPhase .gotS
  else s.setPhase .hunt

/-- Phase LEN (R166). -/
def lenByte (b : Byte) (s : State) : State := { s with decLen := b, decCsum := b, decCnt := 0x00, phase := .code }

/-- Phase CODE (R167). -/
def codeByte (b : Byte) (s : State) : State :=
  { s with decCode := b, decCsum := s.decCsum ^^^ b, phase := if s.decLen = 0x00 then .chk else .payload }

/-- Phase PAYLOAD (R168). The write reaches an offset DEC_BUF does not have only from a state no run reaches (log entry 9). -/
def payloadStep (b : Byte) (s : State) : Host.Outcome State Fault Refusal :=
  match s.decBuf.write? s.decCnt.toNat b with
  | none => .fault (.noSuchOffset s.decCnt.toNat)
  | some m =>
    .next { s with
      decBuf := m
      decCsum := s.decCsum ^^^ b
      decCnt := s.decCnt + 1
      phase := if s.decCnt + 1 = s.decLen then .chk else .payload }

/-- The frame row that the registers of a received frame spell, if its code is in the catalog (R200, R210 to R251). -/
def State.receivedInstr (s : State) : Option Instr :=
  match directionOfByte s.decDir with
  | some dir => frameInstr s.decCode dir s.decPayload
  | none => none

/-- Phase CHK (R169). On a match the frame's instruction is executed; a code outside the catalog has none and is committed
as it stands, with UNKNOWN = 1 (R201; log entry 11). On a mismatch nothing commits. -/
def chkByte (b : Byte) (s : State) : Host.Outcome State Fault Refusal :=
  if b = s.decCsum then
    match s.receivedInstr with
    | some i => exec i s
    | none => .next (s.acceptFrame s.decDir s.decCode s.decPayload)
  else .next ((s.setErr .checksumMismatch).setPhase .idle)

/-- The one rule of the current phase for a byte (R161, R163 to R169). -/
def decoderByte (b : Byte) (s : State) : Host.Outcome State Fault Refusal :=
  match s.phase with
  | .idle => .next s
  | .hunt => .next (huntByte b s)
  | .gotS => .next (gotSByte b s)
  | .gotM => .next (gotMByte b s)
  | .len => .next (lenByte b s)
  | .code => .next (codeByte b s)
  | .payload => payloadStep b s
  | .chk => chkByte b s

/-- The outcome an EOS item records in a phase (R172). -/
def eosKind : Phase → ErrKind
  | .idle => .streamUnavailable
  | .hunt => .streamUnavailable
  | .gotS => .streamUnavailable
  | .gotM => .streamUnavailable
  | .len => .malformedSequence
  | .code => .malformedSequence
  | .payload => .malformedSequence
  | .chk => .malformedSequence

/-- The EOS item while armed (R172): the outcome is recorded, nothing commits. -/
def endOfStream (s : State) : State := (s.setErr (eosKind s.phase)).setPhase .idle

/-- One step of the DECODER (R161). Where it has none (IDLE, or RXQ empty) the state stays (log entry 3). -/
def decoderStep (s : State) : Host.Outcome State Fault Refusal :=
  if s.busy then
    match s.rxq with
    | [] => .next s
    | .eos :: rest => .next (endOfStream { s with rxq := rest })
    | .byte b :: rest => decoderByte b { s with rxq := rest }
  else .next s

end Sys2Proof.Machine
end

