-- ==== Sys2Proof/Machine/Transport.lean ====
section
/-! DEFINITION. The TRANSPORT agent (R14, R48, R49, R304): the environment's three actions on the block. -/

namespace Sys2Proof.Machine

/-- TRANSPORT sends the head byte of TXQ; with TXQ empty it has nothing to send (R49; log entry 3). -/
def State.transportSend (s : State) : State := { s with txq := s.txq.tail }

/-- TRANSPORT appends a byte or EOS at the tail of RXQ (R48). -/
def State.transportReceive (s : State) (x : RxItem) : State := { s with rxq := s.rxq ++ [x] }

/-- `StreamError()` (R304): StreamUnavailable is recorded, a decode in progress abandoned, nothing else changes. -/
def State.streamError (s : State) : State :=
  if s.busy then (s.setErr .streamUnavailable).setPhase .idle else s.setErr .streamUnavailable

end Sys2Proof.Machine
end

