-- ==== Sys2Proof/Machine/Agents.lean ====
section
/-! DEFINITION. One event per step (R307): the HOST's command issue, and the event a schedule names next. Also the order in
which a clocked implementation applies the events of one cycle (R307). -/

namespace Sys2Proof.Machine

/-- HOST issues a command word (R110, R121): an illegal word sets F_ILLEGAL and nothing else; a legal one is executed. -/
def hostStep (w : Word) (s : State) : Host.Outcome State Fault Refusal :=
  match decodeCommand w with
  | .error _ => .next s.faultIllegal
  | .ok i => exec i s

/-- One event. -/
def runEvent (e : Event) (s : State) : Host.Outcome State Fault Refusal :=
  match e with
  | .host w => hostStep w s.takeResult
  | .decoder => decoderStep s
  | .send => .next s.transportSend
  | .receive x => .next (s.transportReceive x)
  | .streamError => .next s.streamError

/-- The next event of the schedule; with none the state is held unchanged (R324; log entry 2). -/
def nextEvent (s : State) : Host.Outcome State Fault Refusal :=
  match s.events with
  | [] => .next s
  | e :: rest => runEvent e { s with events := rest }

/-- The rank of an event within one cycle of a clocked implementation, lower first (R307). -/
def clockRank : Event → Nat
  | .host w => if decodeCommand w = .ok .reset then 1 else 3
  | .streamError => 2
  | .decoder => 4
  | .receive _ => 5
  | .send => 5

/-- Insert an event before the first one of no lower rank. -/
def insertByRank (e : Event) : List Event → List Event
  | [] => [e]
  | x :: xs => if clockRank e ≤ clockRank x then e :: x :: xs else x :: insertByRank e xs

/-- The events of one cycle in the order R307 gives them; events of one rank keep the order given (log entry 15). -/
def cycleOrder : List Event → List Event
  | [] => []
  | e :: es => insertByRank e (cycleOrder es)

/-- Present several events in one cycle: they come next, in the order of R307. -/
def State.presentCycle (s : State) (es : List Event) : State := { s with events := cycleOrder es ++ s.events }

/-- The state in which the next step executes the row of the opcode table whose bits are `w` (log entry 7). A command row's
word is the HOST's next event. A frame row's code byte stands in a received frame with direction `'<'` and no payload,
whose checksum byte is the DECODER's next item. -/
def State.stage (s : State) (nbits w : Nat) : State :=
  if nbits ≤ 8 then
    { s with
      phase := .chk
      decDir := directionByte .request
      decLen := 0x00
      decCnt := 0x00
      decCode := BitVec.ofNat 8 w
      decCsum := checksum 0x00 (BitVec.ofNat 8 w) []
      rxq := .byte (checksum 0x00 (BitVec.ofNat 8 w) []) :: s.rxq
      events := .decoder :: s.events }
  else { s with events := .host (BitVec.ofNat 32 w) :: s.events }

end Sys2Proof.Machine
end

