-- ==== Sys2Proof/Machine/Step.lean ====
section
/-! DEFINITION. Step: one event of one agent (R307), by the definitions of Machine/Agents.lean. -/

namespace Sys2Proof.Machine

/-- One step of the machine. -/
def step (s : State) : Host.Outcome State Fault Refusal := nextEvent s

/-- `s` with the instruction whose table bits are `w` placed where the next step takes it from (log entry 7). -/
def State.withFetchWord (s : State) (nbits w : Nat) : State := s.stage nbits w

end Sys2Proof.Machine
end

