-- ==== Sys2Proof/Machine/Assembler.lean ====
section
/-! DEFINITION. The assembler syntax of spec/30_encoding.md R130: one command per line, mnemonic first, operands separated by
commas, numbers decimal or `0x` hexadecimal, `;` starts a comment. Text is a list of characters. -/

namespace Sys2Proof.Machine

/-- One assembler line as R130 tabulates it, before range checks. -/
inductive AsmLine where
  | nop
  | encode (code n : Nat)
  | decode
  | flush (rx tx : Bool)
  | abort
  | reset
  | setcfg (accept : AcceptMode) (encdir : Direction)
  | wfield (idx : Nat) (value : Int)
  | rfield (idx : Nat)
  | rstatus
  | rinfo
  /-- `.word w`: the value itself, legal or not -/
  | word (w : Nat)
  deriving DecidableEq, Repr

/-- The 16-bit pattern of a field value a HOST holds as a number (R11, R113). -/
def valuePattern (v : Int) : Half := BitVec.ofInt 16 v

/-- The word a line assembles to; none where the assembler refuses an operand: `n` > 255, `idx` > 126, `value` outside
-32768..65535 (R130), and a code or a raw word too wide for its bits (log entry 16). -/
def assemble : AsmLine → Option Word
  | .nop => some 0x00000000
  | .encode code n =>
    if code ≤ 255 ∧ n ≤ 255 then some (BitVec.ofNat 32 n <<< 16 ||| BitVec.ofNat 32 code <<< 8 ||| 0x1) else none
  | .decode => some 0x00000002
  | .flush rx tx => some (BitVec.ofNat 32 tx.toNat <<< 9 ||| BitVec.ofNat 32 rx.toNat <<< 8 ||| 0x3)
  | .abort => some 0x00000004
  | .reset => some 0x00000005
  | .setcfg accept encdir =>
    some (BitVec.ofNat 32 (directionBit encdir).toNat <<< 10 ||| (acceptBits accept).setWidth 32 <<< 8 ||| 0x6)
  | .wfield idx value =>
    if idx ≤ 126 ∧ -32768 ≤ value ∧ value ≤ 65535 then
      some ((valuePattern value).setWidth 32 <<< 16 ||| BitVec.ofNat 32 idx <<< 8 ||| 0x7)
    else none
  | .rfield idx => if idx ≤ 126 then some (BitVec.ofNat 32 idx <<< 8 ||| 0x8) else none
  | .rstatus => some 0x00000009
  | .rinfo => some 0x0000000A
  | .word w => if w < 4294967296 then some (BitVec.ofNat 32 w) else none

/-! ## Reading a line of text -/

/-- The text before a `;`. -/
def dropComment (cs : List Char) : List Char := cs.takeWhile (· ≠ ';')

/-- Text without spaces and tabs at either end. -/
def trimBlanks (cs : List Char) : List Char :=
  let blank := fun c : Char => c = ' ' || c = '\t'
  ((cs.dropWhile blank).reverse.dropWhile blank).reverse

/-- The pieces of a text between the commas. -/
def splitCommas : List Char → List (List Char)
  | [] => [[]]
  | c :: cs =>
    match splitCommas cs with
    | [] => [[c]]
    | p :: ps => if c = ',' then [] :: p :: ps else (c :: p) :: ps

/-- A digit's value in the given base, 10 or 16. -/
def digitValue (base : Nat) (c : Char) : Option Nat :=
  let v :=
    if '0' ≤ c ∧ c ≤ '9' then some (c.toNat - 48)
    else if 'a' ≤ c ∧ c ≤ 'f' then some (c.toNat - 87)
    else if 'A' ≤ c ∧ c ≤ 'F' then some (c.toNat - 55)
    else none
  v.filter (· < base)

/-- The value of a non-empty run of digits. -/
def readDigits (base : Nat) (cs : List Char) : Option Nat :=
  if cs.isEmpty then none
  else cs.foldlM (fun acc c => (digitValue base c).map (base * acc + ·)) 0

/-- A decimal or `0x` hexadecimal number. -/
def readNat : List Char → Option Nat
  | '0' :: 'x' :: cs => readDigits 16 cs
  | cs => readDigits 10 cs

/-- A WFIELD value: a number, or a negative decimal (R130). -/
def readValue : List Char → Option Int
  | '-' :: cs => (readDigits 10 cs).map fun n => -(n : Int)
  | cs => (readNat cs).map Int.ofNat

/-- A message code: a number or a catalog mnemonic (R130). -/
def readCode (cs : List Char) : Option Nat :=
  match readNat cs with
  | some n => some n
  | none => codeOfMnemonic (String.ofList cs)

/-- FLUSH's operand. -/
def readFlush (cs : List Char) : Option AsmLine :=
  if cs = ['r', 'x'] then some (.flush true false)
  else if cs = ['t', 'x'] then some (.flush false true)
  else if cs = ['r', 'x', '+', 't', 'x'] then some (.flush true true)
  else if cs = ['n', 'o', 'n', 'e'] then some (.flush false false)
  else none

/-- SETCFG's first operand. -/
def readAccept (cs : List Char) : Option AcceptMode :=
  if cs = "accept=any".toList then some .any
  else if cs = "accept=rsp".toList then some .rsp
  else if cs = "accept=req".toList then some .req
  else none

/-- SETCFG's second operand. -/
def readEncdir (cs : List Char) : Option Direction :=
  if cs = "encdir=req".toList then some .request
  else if cs = "encdir=rsp".toList then some .response
  else none

/-- The line that a mnemonic and its operands spell (R130). -/
def readLine (mnemonic : List Char) (operands : List (List Char)) : Option AsmLine :=
  match String.ofList mnemonic, operands with
  | "NOP", [] => some .nop
  | "ENCODE", [c, n] => do return .encode (← readCode c) (← readNat n)
  | "DECODE", [] => some .decode
  | "FLUSH", [d] => readFlush d
  | "ABORT", [] => some .abort
  | "RESET", [] => some .reset
  | "SETCFG", [a, e] => do return .setcfg (← readAccept a) (← readEncdir e)
  | "WFIELD", [i, v] => do return .wfield (← readNat i) (← readValue v)
  | "RFIELD", [i] => do return .rfield (← readNat i)
  | "RSTATUS", [] => some .rstatus
  | "RINFO", [] => some .rinfo
  | ".word", [w] => do return .word (← readNat w)
  | _, _ => none

/-- The operand texts after a mnemonic: none for an empty rest, else the trimmed pieces between commas. -/
def operandTexts (cs : List Char) : List (List Char) :=
  let t := trimBlanks cs
  if t.isEmpty then [] else (splitCommas t).map trimBlanks

/-- The word a line of assembler text assembles to (R130). -/
def assembleText (text : List Char) : Option Word :=
  let t := trimBlanks (dropComment text)
  let isBlank := fun c : Char => c = ' ' || c = '\t'
  match readLine (t.takeWhile fun c => !isBlank c) (operandTexts (t.dropWhile fun c => !isBlank c)) with
  | some line => assemble line
  | none => none

end Sys2Proof.Machine
end

