-- ==== Sys2Proof/Machine/Session.lean ====
section
/-! DEFINITION. The HOST's side of a session: the pseudo-instructions SEND, WAIT and EXCHANGE (spec/30_encoding.md R131 to
R133) and how an exchange's outcome is read from STATUS (spec/43_session_control.md R275 to R277). Host code, not commands of
the block. -/

namespace Sys2Proof.Machine

/-- The WFIELD commands that load a field list from index `i` on (R131). -/
def fieldWrites : Nat → List Half → List Instr
  | _, [] => []
  | i, f :: fs => .wfield (BitVec.ofNat 7 i) f :: fieldWrites (i + 1) fs

/-- SEND code, f0, ..., f(k-1) with 0 <= k <= 127 (R131). -/
def sendCommands (code : Byte) (fields : List Half) : Option (List Instr) :=
  if fields.length ≤ Config.maxFields then
    some (fieldWrites 0 fields ++ [.encode code (BitVec.ofNat 8 fields.length)])
  else none

/-- What the HOST puts on the command port for one instruction: the word of a command; a frame row is no command. -/
def issue (i : Instr) : List Event :=
  match encode i with
  | .command w => [.host w]
  | .frame _ => []

/-- The events in which the HOST issues a list of commands, one after the other. -/
def issueAll (is : List Instr) : List Event := is.flatMap issue

/-- The two conditions a WAIT polls RSTATUS for (R132). -/
inductive WaitFor where
  /-- WAIT: result bit 4 (BUSY) is 0 -/
  | notBusy
  /-- WAIT txempty: result bit 11 (TXQ_EMPTY) is 1 -/
  | txEmpty
  deriving DecidableEq, Repr

/-- The polled STATUS word ends the WAIT (R132). -/
def waitDone (c : WaitFor) (status : Word) : Bool :=
  match c with
  | .notBusy => !status.getLsbD 4
  | .txEmpty => status.getLsbD 11

/-- What the HOST does next in step 3 of an EXCHANGE (R133). -/
inductive WaitAction where
  /-- the wait is over -/
  | done
  /-- issue RSTATUS again -/
  | poll
  /-- the timer expired while BUSY: issue ABORT -/
  | abort
  deriving DecidableEq, Repr

/-- Step 3 of EXCHANGE: WAIT bounded by P_T_EXCHANGE; on expiry while BUSY the HOST issues ABORT (R133, R355). -/
def exchangeWait (elapsedMs : Nat) (status : Word) : WaitAction :=
  if waitDone .notBusy status then .done
  else if Config.exchangeTimeoutMs ≤ elapsedMs then .abort
  else .poll

/-- Steps 1 and 2 of EXCHANGE: SEND, DECODE (R133). -/
def exchangeOpening (code : Byte) (fields : List Half) : Option (List Instr) :=
  (sendCommands code fields).map (· ++ [.decode])

/-- Steps 4 and 5 of EXCHANGE: RSTATUS, FLUSH rx+tx, on success and on failure alike (R133, R277). -/
def exchangeClosing : List Instr := [.rstatus, .flush true true]

/-- The kind of an exchange's outcome: ERR of the STATUS word read in step 4 (R275). -/
def exchangeKind (status : Word) : BitVec 4 := status.extractLsb' 0 4

/-- The exchange succeeded: ERR = 0 and neither sticky fault is set (R275). -/
def exchangeSucceeds (status : Word) : Bool :=
  exchangeKind status = 0 && !status.getLsbD 8 && !status.getLsbD 9

/-- ENCODE failed with LengthOverflow: the HOST skips DECODE (R275). -/
def exchangeSkipsDecode (status : Word) : Bool := exchangeKind status = 5

/-- A consumer whose record needs MIN_FIELDS fields may use the response: success and SHORT = 0 (R275). -/
def recordUsable (status : Word) : Bool := exchangeSucceeds status && !status.getLsbD 6

end Sys2Proof.Machine
end

