-- ==== Sys2Proof/Safety.lean ====
section
/-! DEFINITION. What counts as a safe run, in the spec's terms: no sticky fault, the host's duties of
spec/70_reset_and_hazards.md R350 to R353, and the coherence of the registers that every step keeps. -/

namespace Sys2Proof

open Sys2Proof.Machine

/-- No fault bit is set: a faulted state is never a successful end of run (R306). -/
def noFault (s : State) : Bool := !s.fIllegal && !s.fReentry

/-- The commands that need an idle decoder (R305). -/
def needsIdle : Instr → Bool
  | .nop => false
  | .encode _ _ => true
  | .decode => true
  | .flush _ _ => true
  | .abort => false
  | .reset => false
  | .setcfg _ _ => true
  | .wfield _ _ => false
  | .rfield _ => false
  | .rstatus => false
  | .rinfo => false
  | .mspReboot _ _ => false
  | .mspVtxConfig _ _ => false
  | .mspVtxConfig89 _ _ => false
  | .mspIdent _ _ => false
  | .mspStatus _ _ => false
  | .mspRawImu _ _ => false
  | .mspServo _ _ => false
  | .mspMotor _ _ => false
  | .mspRc _ _ => false
  | .mspRawGps _ _ => false
  | .mspCompGps _ _ => false
  | .mspAttitude _ _ => false
  | .mspAltitude _ _ => false
  | .mspAnalog _ _ => false
  | .mspRcTuning _ _ => false
  | .mspPid _ _ => false
  | .mspBox _ _ => false
  | .mspMisc _ _ => false
  | .mspCode115 _ _ => false
  | .mspBoxnames _ _ => false
  | .mspPidnames _ _ => false
  | .mspWp _ _ => false
  | .mspBoxids _ _ => false
  | .mspCode120 _ _ => false
  | .mspCode121 _ _ => false
  | .mspSetRawRc _ _ => false
  | .mspCode201 _ _ => false
  | .mspSetPid _ _ => false
  | .mspSetBox _ _ => false
  | .mspSetRcTuning _ _ => false
  | .mspAccCalibration _ _ => false
  | .mspMagCalibration _ _ => false
  | .mspCode207 _ _ => false
  | .mspResetConf _ _ => false
  | .mspSetWp _ _ => false
  | .mspSwitchRcSerial _ _ => false
  | .mspCode211 _ _ => false
  | .mspCode212 _ _ => false
  | .mspCode213 _ _ => false
  | .mspSetMotor _ _ => false
  | .mspEepromWrite _ _ => false
  | .mspDebug _ _ => false

/-- The host's duty of R350: it does not issue a command that needs an idle decoder while BUSY. -/
def respectsReentry (s : State) (i : Instr) : Bool := !(s.busy && needsIdle i)

/-- The host's duty of R351: the boundary between exchanges is clean. -/
def cleanBoundary (s : State) : Bool := !s.busy && s.rxq.isEmpty && s.txq.isEmpty

/-- The host may trust RINFO and RFIELD (R352). -/
def resultsTrusted (s : State) : Bool := !s.busy && s.err = .ok

/-- The request has left the block, so a FLUSH of TX drops nothing (R353). -/
def requestSent (s : State) : Bool := s.txq.isEmpty

/-- A phase after the start marker (R170, R172). -/
def inFrame : Phase → Bool
  | .idle => false
  | .hunt => false
  | .gotS => false
  | .gotM => false
  | .len => true
  | .code => true
  | .payload => true
  | .chk => true

/-- What holds of the registers in every state a run reaches: the spec's own words on each (R35 to R38, R40 to R44). -/
structure Coherent (s : State) : Prop where
  /-- DEC_BUF is in its canonical form. -/
  buffer : s.decBuf.wf = true
  /-- DEC_CNT never exceeds DEC_LEN (R36). -/
  count : s.decCnt.toNat ≤ s.decLen.toNat
  /-- After the marker DEC_DIR is 0x3C or 0x3E (R35). -/
  direction : inFrame s.phase = true → s.decDir = 0x3C ∨ s.decDir = 0x3E
  /-- In phase CODE the running XOR is the length byte, and no payload byte has been read (R37, R166). -/
  codePhase : s.phase = .code → s.decCsum = s.decLen ∧ s.decCnt = 0x00
  /-- In phase PAYLOAD a payload byte is missing, and the running XOR covers the bytes read (R36, R37). -/
  payloadPhase : s.phase = .payload → s.decCnt.toNat < s.decLen.toNat ∧
    s.decCsum = checksum s.decLen s.decCode (s.decBuf.firstBytes s.decCnt.toNat)
  /-- In phase CHK all of the payload is read, and DEC_CSUM is the frame's checksum (R37, R140). -/
  chkPhase : s.phase = .chk → s.decCnt = s.decLen ∧ s.decCsum = checksum s.decLen s.decCode s.decPayload
  /-- RX_DIR is 0x00 before the first commit, then a direction byte (R41). -/
  resultDir : s.rxDir = 0x00 ∨ s.rxDir = 0x3C ∨ s.rxDir = 0x3E
  /-- ODD says whether RX_LEN is odd (R44). -/
  resultOdd : s.odd = decide (s.rxLen.toNat % 2 = 1)
  /-- RX_TAIL is 0x00 unless RX_LEN is odd (R41). -/
  resultTail : s.rxLen.toNat % 2 = 0 → s.rxTail = 0x00
  /-- Entries at and above the field count are 0x0000 (R40). -/
  resultFields : ∀ (i : Nat) (h : i < 127), s.rxLen.toNat / 2 ≤ i → s.rxFields[i] = 0x0000
  /-- UNKNOWN and SHORT are those of the committed code and field count (R44). -/
  resultFlags : s.rxDir ≠ 0x00 →
    s.unknown = !inCatalog s.rxCode ∧ s.short = decide (s.rxLen.toNat / 2 < minFields s.rxCode)
  /-- Before the first commit every result is as reset leaves it (R41, R340). -/
  beforeCommit : s.rxDir = 0x00 → s.rxCode = 0x00 ∧ s.rxLen = 0x00 ∧ s.unknown = false ∧ s.short = false

end Sys2Proof
end

