-- ==== Sys2Proof/Certificates/Slice0/Obligations.lean ====
section
/-! DEFINITION. The statements for the provers, each from the spec's numbered rules, and the words they share. -/

namespace Sys2Proof.Claim

open Sys2Proof Sys2Proof.Machine

/-- The bits each opcode's pattern of R112 marks 0, w[7:4] among them. -/
def reservedBits (op : Nat) : Word :=
  if op = 1 then 0xFF0000F0
  else if op = 3 then 0xFFFFFCF0
  else if op = 6 then 0xFFFFF8F0
  else if op = 7 then 0x000080F0
  else if op = 8 then 0xFFFF80F0
  else 0xFFFFFFF0

/-- R121: a word is illegal. -/
def IllegalWord (w : Word) : Prop :=
  11 ≤ w.toNat % 16 ∨ w &&& reservedBits (w.toNat % 16) ≠ 0 ∨
    ((w.toNat % 16 = 7 ∨ w.toNat % 16 = 8) ∧ w.toNat / 256 % 128 = 127) ∨
    (w.toNat % 16 = 6 ∧ w.toNat / 256 % 4 = 3)

/-- Issuing the word sets F_ILLEGAL and changes no other register and no queue, and places no result (R121, R306). What
becomes of a value still on the result port is left open here: `StepRunsIssuedCommand` says it. -/
def OnlyFaults (w : Word) : Prop :=
  ∀ (s : State) (rest : List Event), s.events = .host w :: rest →
    ∃ t, step s = .next t ∧ t = { s with events := rest, resultPort := t.resultPort, fIllegal := true } ∧
      (s.resultPort = none → t.resultPort = none)

/-- A word whose opcode is `op` and that has a bit set which the opcode's pattern marks 0 is illegal (R112, R121). -/
def ReservedBitsFault (op : Nat) : Prop :=
  ∀ w : Word, w.toNat % 16 = op → w &&& reservedBits op ≠ 0 → OnlyFaults w

/-- A frame row executes: the commit of R171 with this code, UNKNOWN = 0 and SHORT by this minimum, ERR = 0, PHASE = IDLE,
and nothing else. -/
def FrameCompletes (mk : Direction → List Byte → Instr) (code : Byte) (minimum : Nat) : Prop :=
  ∀ (dir : Direction) (payload : List Byte) (s : State), payload.length ≤ 255 →
    ∃ t, exec (mk dir payload) s = .next t ∧
      (∀ (i : Nat) (h : i < 127), t.rxFields[i] =
        if i < payload.length / 2 then payload.getD (2 * i + 1) 0 ++ payload.getD (2 * i) 0 else 0) ∧
      t = { s with
        rxFields := t.rxFields
        rxCode := code
        rxLen := BitVec.ofNat 8 payload.length
        rxDir := if dir = .request then 0x3C else 0x3E
        rxTail := if payload.length % 2 = 1 then payload.getD (payload.length - 1) 0 else 0
        odd := decide (payload.length % 2 = 1)
        unknown := false
        short := decide (payload.length / 2 < minimum)
        err := .ok
        phase := .idle }

/-- PHASE as a number (R32). -/
def phaseNumber (p : Phase) : Nat :=
  match p with
  | .idle => 0 | .hunt => 1 | .gotS => 2 | .gotM => 3 | .len => 4 | .code => 5 | .payload => 6 | .chk => 7

/-- ERR as a number (R300). -/
def errNumber (k : ErrKind) : Nat :=
  match k with
  | .ok => 0 | .checksumMismatch => 1 | .timeout => 2 | .malformedSequence => 3 | .streamUnavailable => 4
  | .lengthOverflow => 5

/-- CFG.ACCEPT as a number (R46). -/
def acceptNumber (a : AcceptMode) : Nat :=
  match a with
  | .any => 0 | .rsp => 1 | .req => 2

/-- CFG.ENCDIR as a number (R47). -/
def encdirNumber (d : Direction) : Nat := if d = .request then 0 else 1

/-- STATUS as a number, field by field at its bit position (R50). -/
def statusNumber (s : State) : Nat :=
  errNumber s.err + 2 ^ 4 * (decide (s.phase ≠ .idle)).toNat + 2 ^ 5 * s.unknown.toNat + 2 ^ 6 * s.short.toNat +
    2 ^ 7 * s.odd.toNat + 2 ^ 8 * s.fIllegal.toNat + 2 ^ 9 * s.fReentry.toNat + 2 ^ 10 * (decide (s.rxq = [])).toNat +
    2 ^ 11 * (decide (s.txq = [])).toNat + 2 ^ 16 * phaseNumber s.phase + 2 ^ 20 * acceptNumber s.cfgAccept +
    2 ^ 22 * encdirNumber s.cfgEncdir

/-- `b` is a direction byte that CFG.ACCEPT = `a` admits (R162). -/
def Admits (a : AcceptMode) (b : Byte) : Prop :=
  (a = .any ∧ (b = 0x3C ∨ b = 0x3E)) ∨ (a = .rsp ∧ b = 0x3E) ∨ (a = .req ∧ b = 0x3C)

/-- Every accepted marker in `bs` stands at its very end: no marker ends before the last byte. -/
def NoEarlierMarker (a : AcceptMode) (bs : List Byte) : Prop :=
  ∀ (u : List Byte) (x : Byte) (v : List Byte), bs = u ++ [0x24, 0x4D, x] ++ v → Admits a x → v = []

/-- No three consecutive bytes of `bs` are an accepted marker. -/
def NoMarker (a : AcceptMode) (bs : List Byte) : Prop :=
  ∀ (u : List Byte) (x : Byte) (v : List Byte), bs = u ++ [0x24, 0x4D, x] ++ v → ¬ Admits a x

/-- XOR of a byte list. -/
def xorAll (bs : List Byte) : Byte := bs.foldr (fun b c => b ^^^ c) 0

/-- The results and frame flags of `t` are those of `s` (R42). -/
def SameResults (s t : State) : Prop :=
  t.rxFields = s.rxFields ∧ t.rxCode = s.rxCode ∧ t.rxLen = s.rxLen ∧ t.rxDir = s.rxDir ∧ t.rxTail = s.rxTail ∧
    t.unknown = s.unknown ∧ t.short = s.short ∧ t.odd = s.odd

/-- The results of `t` are those of a committed frame with this direction byte, code and payload (R171). -/
def Committed (t : State) (dir code : Byte) (payload : List Byte) : Prop :=
  (∀ (i : Nat) (h : i < 127), t.rxFields[i] =
      if i < payload.length / 2 then payload.getD (2 * i + 1) 0 ++ payload.getD (2 * i) 0 else 0) ∧
    t.rxCode = code ∧ t.rxLen = BitVec.ofNat 8 payload.length ∧ t.rxDir = dir ∧
    t.rxTail = (if payload.length % 2 = 1 then payload.getD (payload.length - 1) 0 else 0) ∧
    t.odd = decide (payload.length % 2 = 1) ∧ t.unknown = !inCatalog code ∧
    t.short = decide (payload.length / 2 < minFields code)

/-- The state after `k` steps, if the machine runs that far. -/
def RunsTo (k : Nat) (s t : State) : Prop := Host.Core.run Sys2Proof.core k s = .next t

/-- What a decode leaves alone whatever its outcome (R42, R52, R178): every register a decoder step may not write. -/
def OutsideDecoderSame (s t : State) : Prop :=
  t.encFields = s.encFields ∧ t.fIllegal = s.fIllegal ∧ t.fReentry = s.fReentry ∧ t.cfgAccept = s.cfgAccept ∧
    t.cfgEncdir = s.cfgEncdir ∧ t.txq = s.txq

end Sys2Proof.Claim

open Sys2Proof Sys2Proof.Machine

/-! ## Encodings -/

/-- Every well-formed instruction, command or frame, decodes back from its encoding (R100, R110 to R113). -/
def Obligations.EncodedInstructionsDecode : Prop :=
  ∀ i : Instr, i.wellFormed = true → decode (encode i) = .ok i

/-- A word the command decoder takes is the encoding of the well-formed command it gives: one meaning per word (R123). -/
def Obligations.LegalWordsReencode : Prop :=
  ∀ (w : Word) (i : Instr), decodeCommand w = .ok i → i.wellFormed = true ∧ encode i = .command w

/-- A byte list the frame decoder takes is the encoding of the well-formed frame it gives (R100, R103). -/
def Obligations.DecodedFramesReencode : Prop :=
  ∀ (bs : List Byte) (i : Instr), decodeFrame bs = .ok i → i.wellFormed = true ∧ encode i = .frame bs

/-- R121: exactly the words of (a) to (d) are illegal, and an illegal word, BUSY or not, sets F_ILLEGAL and nothing else. -/
def Obligations.IllegalWordsOnlySetTheFault : Prop :=
  ∀ w : Word, ((∃ r, decodeCommand w = .error r) ↔ Claim.IllegalWord w) ∧ (Claim.IllegalWord w → Claim.OnlyFaults w)

/-- The words of R130's table decode to the commands they are written for, with every operand value (R112, R113). -/
def Obligations.AssembledLinesDecode : Prop :=
  (assemble .nop).map decodeCommand = some (.ok .nop) ∧
  (∀ code n : Nat, code ≤ 255 → n ≤ 255 → (assemble (.encode code n)).map decodeCommand =
    some (.ok (.encode (BitVec.ofNat 8 code) (BitVec.ofNat 8 n)))) ∧
  (assemble .decode).map decodeCommand = some (.ok .decode) ∧
  (∀ rx tx : Bool, (assemble (.flush rx tx)).map decodeCommand = some (.ok (.flush tx rx))) ∧
  (assemble .abort).map decodeCommand = some (.ok .abort) ∧
  (assemble .reset).map decodeCommand = some (.ok .reset) ∧
  (∀ (a : AcceptMode) (d : Direction), (assemble (.setcfg a d)).map decodeCommand =
    some (.ok (.setcfg (BitVec.ofNat 2 (Claim.acceptNumber a)) d))) ∧
  (∀ (i : Nat) (v : Int), i ≤ 126 → -32768 ≤ v → v ≤ 65535 → (assemble (.wfield i v)).map decodeCommand =
    some (.ok (.wfield (BitVec.ofNat 7 i) (BitVec.ofInt 16 v)))) ∧
  (∀ i : Nat, i ≤ 126 → (assemble (.rfield i)).map decodeCommand = some (.ok (.rfield (BitVec.ofNat 7 i)))) ∧
  (assemble .rstatus).map decodeCommand = some (.ok .rstatus) ∧
  (assemble .rinfo).map decodeCommand = some (.ok .rinfo)

/-- The assembler refuses `n` > 255, `idx` > 126 and `value` outside -32768..65535 (R130). -/
def Obligations.AssemblerRefusesOutOfRange : Prop :=
  (∀ code n : Nat, 255 < n → assemble (.encode code n) = none) ∧
  (∀ (i : Nat) (v : Int), 126 < i ∨ v < -32768 ∨ 65535 < v → assemble (.wfield i v) = none) ∧
  (∀ i : Nat, 126 < i → assemble (.rfield i) = none)

/-- Words and frames written out in spec/95_test_vectors.md decode to what stands beside them there. -/
def Obligations.SpecVectorsDecode : Prop :=
  decodeCommand 0x00006C01 = .ok (.encode 108 0) ∧
  decodeCommand 0x00FF6C01 = .ok (.encode 108 255) ∧
  decodeCommand 0x010E0207 = .ok (.wfield 2 270) ∧
  decodeCommand 0xFFCE0107 = .ok (.wfield 1 (-50)) ∧
  decodeCommand 0x00000303 = .ok (.flush true true) ∧
  decodeCommand 0x00000106 = .ok (.setcfg 1 .request) ∧
  decodeCommand 0x00000606 = .ok (.setcfg 2 .response) ∧
  decodeCommand 0x00000108 = .ok (.rfield 1) ∧
  decodeFrame [0x24, 0x4D, 0x3E, 0x06, 0x6C, 0x64, 0x00, 0xCE, 0xFF, 0x0E, 0x01, 0x30] =
    .ok (.mspAttitude .response [0x64, 0x00, 0xCE, 0xFF, 0x0E, 0x01]) ∧
  decodeFrame [0x24, 0x4D, 0x3C, 0x00, 0x44, 0x44] = .ok (.mspReboot .request [])

/-! ## The step -/

/-- Where the next event is a legal command word, the step is `exec` of the command on the state with the event taken and
the result port emptied; an illegal word sets F_ILLEGAL on that state. That a command is an event of a schedule and that
its issue empties the result port are the model's own (log entries 1 and 4). -/
def Obligations.StepRunsIssuedCommand : Prop :=
  ∀ (s : State) (w : Word) (rest : List Event), s.events = .host w :: rest →
    (∀ i : Instr, decodeCommand w = .ok i → step s = exec i { s with events := rest, resultPort := none }) ∧
    (∀ r : Reject, decodeCommand w = .error r →
      step s = .next { s with events := rest, resultPort := none, fIllegal := true })

/-- Where the next event is a DECODER step in phase CHK, the item is the checksum byte the decoder expects, and the received
registers spell the encoding of a frame row, the step is `exec` of that row on the state with the event and the item
taken. That a frame row is executed at this point is the model's reading (log entry 5). -/
def Obligations.StepRunsReceivedFrame : Prop :=
  ∀ (s : State) (b : Byte) (q : List RxItem) (rest : List Event) (i : Instr),
    s.events = .decoder :: rest → s.phase = .chk → s.rxq = .byte b :: q → b = s.decCsum →
    decode (.frame (wireFrame s.decDir s.decCode s.decPayload)) = .ok i →
    step s = exec i { s with events := rest, rxq := q }

/-- The schedule is the model's own field and these are its own choices: with nothing scheduled the state is held (log
entries 1 and 2), and RESET leaves the schedule alone (log entry 13). -/
def Obligations.ScheduleConventions : Prop :=
  (∀ s : State, s.events = [] → step s = .next s) ∧
  (∀ s : State, exec .reset s = .next { State.reset with events := s.events })

/-! ## Reset -/

/-- R340: what ResetState() leaves, register by register. -/
def Obligations.ResetStateValues : Prop :=
  State.reset.phase = .idle ∧ State.reset.decLen = 0x00 ∧ State.reset.decCode = 0x00 ∧ State.reset.decDir = 0x00 ∧
  State.reset.decCnt = 0x00 ∧ State.reset.decCsum = 0x00 ∧ (∀ a, a < 255 → State.reset.decBuf.read a = 0x00) ∧
  (∀ (i : Nat) (h : i < 127), State.reset.encFields[i] = 0x0000 ∧ State.reset.rxFields[i] = 0x0000) ∧
  State.reset.rxCode = 0x00 ∧ State.reset.rxLen = 0x00 ∧ State.reset.rxDir = 0x00 ∧ State.reset.rxTail = 0x00 ∧
  State.reset.err = .ok ∧ State.reset.unknown = false ∧ State.reset.short = false ∧ State.reset.odd = false ∧
  State.reset.fIllegal = false ∧ State.reset.fReentry = false ∧ State.reset.cfgAccept = .any ∧
  State.reset.cfgEncdir = .request ∧ State.reset.rxq = [] ∧ State.reset.txq = [] ∧ State.reset.resultPort = none ∧
  State.reset.statusWord = 0x00000C00 ∧ State.reset.infoWord = 0x00000000

/-- R264: RESET, BUSY or not, leaves the reset state (of the schedule, the model's own field, this says nothing); a word with
its opcode and any other bit set does not reset. -/
def Obligations.ResetCommandResets : Prop :=
  decodeCommand 0x00000005 = .ok .reset ∧
  (∀ s : State, ∃ t, exec .reset s = .next t ∧ { t with events := [] } = State.reset) ∧
  State.reset.statusWord = 0x00000C00 ∧ Claim.ReservedBitsFault 5

/-! ## Commands -/

/-- R261: NOP changes nothing; a word with its opcode and any other bit set only faults. -/
def Obligations.NopDoesNothing : Prop :=
  decodeCommand 0x00000000 = .ok .nop ∧ (∀ s : State, exec .nop s = .next s) ∧ Claim.ReservedBitsFault 0

/-- R142: ENCODE's three outcomes, its word, and its illegal words. -/
def Obligations.EncodeQueuesFrameOrRefuses : Prop :=
  ∀ (code n : Byte) (s : State),
    decodeCommand (n.setWidth 32 <<< 16 ||| code.setWidth 32 <<< 8 ||| 0x1) = .ok (.encode code n) ∧
    Claim.ReservedBitsFault 1 ∧
    (s.phase ≠ .idle → exec (.encode code n) s = .next { s with fReentry := true }) ∧
    (s.phase = .idle → 127 < n.toNat → exec (.encode code n) s = .next { s with err := .lengthOverflow }) ∧
    (s.phase = .idle → n.toNat ≤ 127 → exec (.encode code n) s = .next { s with
      txq := s.txq ++ frameOfFields (if s.cfgEncdir = .request then 0x3C else 0x3E) code (s.encFields.toList.take n.toNat)
      err := .ok })

/-- R143, R140, R101: the bytes of `Frame(dir, code, f)`, place by place; the last is the XOR of bytes 3 to 4 + 2N. -/
def Obligations.FrameBytesInPlace : Prop :=
  ∀ (dir code : Byte) (f : List Half), f.length ≤ 127 →
    (frameOfFields dir code f).length = 6 + 2 * f.length ∧
    (frameOfFields dir code f).take 5 = [0x24, 0x4D, dir, BitVec.ofNat 8 (2 * f.length), code] ∧
    (∀ (i : Nat) (h : i < f.length),
      (frameOfFields dir code f)[5 + 2 * i]? = some (BitVec.ofNat 8 (f[i].toNat % 256)) ∧
      (frameOfFields dir code f)[6 + 2 * i]? = some (BitVec.ofNat 8 (f[i].toNat / 256))) ∧
    (frameOfFields dir code f)[5 + 2 * f.length]? =
      some (Claim.xorAll (((frameOfFields dir code f).drop 3).take (2 + 2 * f.length)))

/-- R160: DECODE arms an idle decoder and clears ERR; while BUSY it is refused. -/
def Obligations.DecodeArmsIdleDecoder : Prop :=
  decodeCommand 0x00000002 = .ok .decode ∧ Claim.ReservedBitsFault 2 ∧
  ∀ s : State, (s.phase ≠ .idle → exec .decode s = .next { s with fReentry := true }) ∧
    (s.phase = .idle → exec .decode s = .next { s with err := .ok, phase := .hunt })

/-- R262: FLUSH empties the selected queues of an idle block and writes nothing else; while BUSY it is refused. -/
def Obligations.FlushEmptiesSelectedQueues : Prop :=
  ∀ (tx rx : Bool) (s : State),
    decodeCommand ((BitVec.ofBool tx).setWidth 32 <<< 9 ||| (BitVec.ofBool rx).setWidth 32 <<< 8 ||| 0x3) =
      .ok (.flush tx rx) ∧
    Claim.ReservedBitsFault 3 ∧
    (s.phase ≠ .idle → exec (.flush tx rx) s = .next { s with fReentry := true }) ∧
    (s.phase = .idle → exec (.flush tx rx) s = .next { s with
      rxq := if rx = true then [] else s.rxq
      txq := if tx = true then [] else s.txq })

/-- R263: ABORT while BUSY records Timeout and goes IDLE, committing and flushing nothing; while IDLE it does nothing. -/
def Obligations.AbortRecordsTimeout : Prop :=
  decodeCommand 0x00000004 = .ok .abort ∧ Claim.ReservedBitsFault 4 ∧
  ∀ s : State, (s.phase ≠ .idle → exec .abort s = .next { s with err := .timeout, phase := .idle }) ∧
    (s.phase = .idle → exec .abort s = .next s)

/-- R266: SETCFG writes both fields of an idle block; ACCEPT = 3 is illegal and leaves both; while BUSY it is refused. -/
def Obligations.SetcfgWritesConfiguration : Prop :=
  Claim.ReservedBitsFault 6 ∧ (∀ w : Word, w.toNat % 16 = 6 → w.toNat / 256 % 4 = 3 → Claim.OnlyFaults w) ∧
  ∀ (a : AcceptMode) (d : Direction) (s : State),
    decodeCommand (BitVec.ofNat 32 (Claim.encdirNumber d) <<< 10 ||| BitVec.ofNat 32 (Claim.acceptNumber a) <<< 8 ||| 0x6) =
      .ok (.setcfg (BitVec.ofNat 2 (Claim.acceptNumber a)) d) ∧
    (s.phase ≠ .idle → exec (.setcfg (BitVec.ofNat 2 (Claim.acceptNumber a)) d) s = .next { s with fReentry := true }) ∧
    (s.phase = .idle → exec (.setcfg (BitVec.ofNat 2 (Claim.acceptNumber a)) d) s =
      .next { s with cfgAccept := a, cfgEncdir := d })

/-- R141: WFIELD writes the one entry, BUSY or not; IDX = 127 is illegal. -/
def Obligations.WfieldWritesOneEntry : Prop :=
  Claim.ReservedBitsFault 7 ∧ (∀ w : Word, w.toNat % 16 = 7 → w.toNat / 256 % 128 = 127 → Claim.OnlyFaults w) ∧
  ∀ (idx : BitVec 7) (value : Half) (s : State), idx ≠ 127 →
    decodeCommand (value.setWidth 32 <<< 16 ||| idx.setWidth 32 <<< 8 ||| 0x7) = .ok (.wfield idx value) ∧
    ∃ t, exec (.wfield idx value) s = .next t ∧ t = { s with encFields := t.encFields } ∧
      ∀ (i : Nat) (h : i < 127), t.encFields[i] = if i = idx.toNat then value else s.encFields[i]

/-- R267: RFIELD answers the committed entry, zero-extended, BUSY or not, and changes nothing but the result port; IDX = 127
is illegal. -/
def Obligations.RfieldReturnsCommittedEntry : Prop :=
  Claim.ReservedBitsFault 8 ∧ (∀ w : Word, w.toNat % 16 = 8 → w.toNat / 256 % 128 = 127 → Claim.OnlyFaults w) ∧
  ∀ (idx : BitVec 7) (s : State) (h : idx.toNat < 127),
    decodeCommand (idx.setWidth 32 <<< 8 ||| 0x8) = .ok (.rfield idx) ∧
    ∃ v : Word, exec (.rfield idx) s = .next { s with resultPort := some v } ∧ v.toNat = s.rxFields[idx.toNat].toNat

/-- R268, R50: RSTATUS answers the STATUS word with every field at its place, and changes nothing but the result port. -/
def Obligations.RstatusReturnsStatus : Prop :=
  decodeCommand 0x00000009 = .ok .rstatus ∧ Claim.ReservedBitsFault 9 ∧ Claim.statusNumber State.reset = 0x00000C00 ∧
  ∀ s : State, ∃ v : Word, exec .rstatus s = .next { s with resultPort := some v } ∧ v.toNat = Claim.statusNumber s

/-- R269, R51: RINFO answers RX_TAIL, RX_DIR, RX_LEN and RX_CODE in that order from the top byte, and changes nothing but the
result port. -/
def Obligations.RinfoReturnsHeader : Prop :=
  decodeCommand 0x0000000A = .ok .rinfo ∧ Claim.ReservedBitsFault 10 ∧ State.reset.infoWord = 0x00000000 ∧
  ∀ s : State, ∃ v : Word, exec .rinfo s = .next { s with resultPort := some v } ∧
    v.toNat = s.rxTail.toNat * 2 ^ 24 + s.rxDir.toNat * 2 ^ 16 + s.rxLen.toNat * 2 ^ 8 + s.rxCode.toNat

/-- R305: while BUSY, ENCODE, DECODE, FLUSH and SETCFG set F_REENTRY and nothing else; NOP, WFIELD, RFIELD, RSTATUS and RINFO
are performed and touch neither the decoder nor RXQ nor ERR; ABORT ends the BUSY state and RESET resets. -/
def Obligations.BusyRefusesFourCommands : Prop :=
  ∀ s : State, s.phase ≠ .idle →
    (∀ code n, exec (.encode code n) s = .next { s with fReentry := true }) ∧
    exec .decode s = .next { s with fReentry := true } ∧
    (∀ tx rx, exec (.flush tx rx) s = .next { s with fReentry := true }) ∧
    (∀ a d, a ≠ 3 → exec (.setcfg a d) s = .next { s with fReentry := true }) ∧
    (∀ i, i = .nop ∨ i = .rstatus ∨ i = .rinfo ∨ (∃ x v, x ≠ 127 ∧ i = .wfield x v) ∨ (∃ x, x ≠ 127 ∧ i = .rfield x) →
      ∃ t, exec i s = .next t ∧ t = { s with encFields := t.encFields, resultPort := t.resultPort }) ∧
    exec .abort s = .next { s with err := .timeout, phase := .idle } ∧
    (∃ t, exec .reset s = .next t ∧ { t with events := [] } = State.reset)

/-- Legality is decided before BUSY, and BUSY before LengthOverflow (R308): on a busy block an illegal word leaves F_REENTRY
and ERR, and an ENCODE of too many fields leaves ERR. -/
def Obligations.ChecksRunInOrder : Prop :=
  ∀ (s : State) (w : Word) (rest : List Event), s.phase ≠ .idle → s.events = .host w :: rest →
    (Claim.IllegalWord w → ∃ t, step s = .next t ∧ t.fIllegal = true ∧ t.fReentry = s.fReentry ∧ t.err = s.err) ∧
    (∀ code n : Byte, w = n.setWidth 32 <<< 16 ||| code.setWidth 32 <<< 8 ||| 0x1 →
      ∃ t, step s = .next t ∧ t.fReentry = true ∧ t.fIllegal = s.fIllegal ∧ t.err = s.err ∧ t.txq = s.txq)

/-! ## Frame rows -/

/-- The six telemetry rows with a minimum field count commit their frames, SHORT by that minimum (R202). -/
def Obligations.CountedTelemetryFramesCommit : Prop :=
  Sys2Proof.Claim.FrameCompletes .mspRawImu 0x66 9 ∧
  Sys2Proof.Claim.FrameCompletes .mspRc 0x69 4 ∧
  Sys2Proof.Claim.FrameCompletes .mspRawGps 0x6A 6 ∧
  Sys2Proof.Claim.FrameCompletes .mspAttitude 0x6C 3 ∧
  Sys2Proof.Claim.FrameCompletes .mspAltitude 0x6D 2 ∧
  Sys2Proof.Claim.FrameCompletes .mspPid 0x70 9

/-- The sixteen other telemetry rows, codes 100 to 121, commit their frames with SHORT = 0. -/
def Obligations.PlainTelemetryFramesCommit : Prop :=
  Sys2Proof.Claim.FrameCompletes .mspIdent 0x64 0 ∧
  Sys2Proof.Claim.FrameCompletes .mspStatus 0x65 0 ∧
  Sys2Proof.Claim.FrameCompletes .mspServo 0x67 0 ∧
  Sys2Proof.Claim.FrameCompletes .mspMotor 0x68 0 ∧
  Sys2Proof.Claim.FrameCompletes .mspCompGps 0x6B 0 ∧
  Sys2Proof.Claim.FrameCompletes .mspAnalog 0x6E 0 ∧
  Sys2Proof.Claim.FrameCompletes .mspRcTuning 0x6F 0 ∧
  Sys2Proof.Claim.FrameCompletes .mspBox 0x71 0 ∧
  Sys2Proof.Claim.FrameCompletes .mspMisc 0x72 0 ∧
  Sys2Proof.Claim.FrameCompletes .mspCode115 0x73 0 ∧
  Sys2Proof.Claim.FrameCompletes .mspBoxnames 0x74 0 ∧
  Sys2Proof.Claim.FrameCompletes .mspPidnames 0x75 0 ∧
  Sys2Proof.Claim.FrameCompletes .mspWp 0x76 0 ∧
  Sys2Proof.Claim.FrameCompletes .mspBoxids 0x77 0 ∧
  Sys2Proof.Claim.FrameCompletes .mspCode120 0x78 0 ∧
  Sys2Proof.Claim.FrameCompletes .mspCode121 0x79 0

/-- The fifteen control rows, codes 200 to 214, commit their frames with SHORT = 0. -/
def Obligations.ControlFramesCommit : Prop :=
  Sys2Proof.Claim.FrameCompletes .mspSetRawRc 0xC8 0 ∧
  Sys2Proof.Claim.FrameCompletes .mspCode201 0xC9 0 ∧
  Sys2Proof.Claim.FrameCompletes .mspSetPid 0xCA 0 ∧
  Sys2Proof.Claim.FrameCompletes .mspSetBox 0xCB 0 ∧
  Sys2Proof.Claim.FrameCompletes .mspSetRcTuning 0xCC 0 ∧
  Sys2Proof.Claim.FrameCompletes .mspAccCalibration 0xCD 0 ∧
  Sys2Proof.Claim.FrameCompletes .mspMagCalibration 0xCE 0 ∧
  Sys2Proof.Claim.FrameCompletes .mspCode207 0xCF 0 ∧
  Sys2Proof.Claim.FrameCompletes .mspResetConf 0xD0 0 ∧
  Sys2Proof.Claim.FrameCompletes .mspSetWp 0xD1 0 ∧
  Sys2Proof.Claim.FrameCompletes .mspSwitchRcSerial 0xD2 0 ∧
  Sys2Proof.Claim.FrameCompletes .mspCode211 0xD3 0 ∧
  Sys2Proof.Claim.FrameCompletes .mspCode212 0xD4 0 ∧
  Sys2Proof.Claim.FrameCompletes .mspCode213 0xD5 0 ∧
  Sys2Proof.Claim.FrameCompletes .mspSetMotor 0xD6 0

/-- The five maintenance rows commit their frames with SHORT = 0. -/
def Obligations.MaintenanceFramesCommit : Prop :=
  Sys2Proof.Claim.FrameCompletes .mspReboot 0x44 0 ∧
  Sys2Proof.Claim.FrameCompletes .mspVtxConfig 0x58 0 ∧
  Sys2Proof.Claim.FrameCompletes .mspVtxConfig89 0x59 0 ∧
  Sys2Proof.Claim.FrameCompletes .mspEepromWrite 0xFA 0 ∧
  Sys2Proof.Claim.FrameCompletes .mspDebug 0xFE 0

/-- The request frame with no fields for every code: on an idle block with CFG.ENCDIR = 0, `ENCODE code, 0` queues
`24 4D 3C 00 cc cc` (the examples of R210 to R251). -/
def Obligations.EmptyRequestFrames : Prop :=
  ∀ (code : Byte) (s : State), s.phase = .idle → s.cfgEncdir = .request →
    exec (.encode code 0) s = .next { s with txq := s.txq ++ [0x24, 0x4D, 0x3C, 0x00, code, code], err := .ok }

/-- R200: the catalog set K, 42 codes. -/
def Obligations.CatalogSetMembers : Prop :=
  (∀ code : Byte, inCatalog code = true ↔
    code.toNat ∈ [68, 88, 89] ∨ (100 ≤ code.toNat ∧ code.toNat ≤ 121) ∨ (200 ≤ code.toNat ∧ code.toNat ≤ 214) ∨
      code.toNat ∈ [250, 254]) ∧
  ((List.range 256).filter fun c => inCatalog (BitVec.ofNat 8 c)).length = 42

/-- A code has a frame row exactly when it is in K (R200, R210 to R251). -/
def Obligations.FrameRowsAreTheCatalog : Prop :=
  ∀ (code : Byte) (dir : Direction) (payload : List Byte),
    (frameInstr code dir payload).isSome = inCatalog code

/-! ## The decoder, item by item -/

/-- R163, R164, R165, R162: the marker hunt on a byte. Only PHASE changes, and DEC_DIR where the marker is found. -/
def Obligations.HuntRulesOnAByte : Prop :=
  ∀ (s : State) (b : Byte) (q : List RxItem) (rest : List Event), s.events = .decoder :: rest → s.rxq = .byte b :: q →
    (s.phase = .hunt → step s = .next { s with events := rest, rxq := q, phase := if b = 0x24 then .gotS else .hunt }) ∧
    (s.phase = .gotS → step s = .next { s with
      events := rest
      rxq := q
      phase := if b = 0x4D then .gotM else if b = 0x24 then .gotS else .hunt }) ∧
    (s.phase = .gotM → Claim.Admits s.cfgAccept b →
      step s = .next { s with events := rest, rxq := q, decDir := b, phase := .len }) ∧
    (s.phase = .gotM → ¬ Claim.Admits s.cfgAccept b →
      step s = .next { s with events := rest, rxq := q, phase := if b = 0x24 then .gotS else .hunt })

/-- R166, R167: the length byte and the code byte. -/
def Obligations.HeaderRulesOnAByte : Prop :=
  ∀ (s : State) (b : Byte) (q : List RxItem) (rest : List Event), s.events = .decoder :: rest → s.rxq = .byte b :: q →
    (s.phase = .len → step s = .next { s with
      events := rest, rxq := q, decLen := b, decCsum := b, decCnt := 0x00, phase := .code }) ∧
    (s.phase = .code → step s = .next { s with
      events := rest
      rxq := q
      decCode := b
      decCsum := s.decCsum ^^^ b
      phase := if s.decLen = 0x00 then .chk else .payload })

/-- R168: a payload byte goes to offset DEC_CNT of DEC_BUF and nowhere else, into the running XOR, and is counted. -/
def Obligations.PayloadRuleOnAByte : Prop :=
  ∀ (s : State) (b : Byte) (q : List RxItem) (rest : List Event), s.events = .decoder :: rest → s.rxq = .byte b :: q →
    s.phase = .payload → s.decBuf.wf = true → s.decCnt.toNat < 255 →
    ∃ t, step s = .next t ∧ t.decBuf.read s.decCnt.toNat = b ∧
      (∀ a, a ≠ s.decCnt.toNat → t.decBuf.read a = s.decBuf.read a) ∧
      t = { s with
        events := rest
        rxq := q
        decBuf := t.decBuf
        decCsum := s.decCsum ^^^ b
        decCnt := BitVec.ofNat 8 (s.decCnt.toNat + 1)
        phase := if s.decCnt.toNat + 1 = s.decLen.toNat then .chk else .payload }

/-- R169, R171: the checksum byte. On a match every result register is written from the received registers and the payload
buffer, with ERR = 0; else ERR = 1 and nothing commits. PHASE goes IDLE. -/
def Obligations.CheckByteCommitsOrRejects : Prop :=
  ∀ (s : State) (b : Byte) (q : List RxItem) (rest : List Event), s.events = .decoder :: rest → s.rxq = .byte b :: q →
    s.phase = .chk →
    (b ≠ s.decCsum → step s = .next { s with events := rest, rxq := q, err := .checksumMismatch, phase := .idle }) ∧
    (b = s.decCsum → ∃ t, step s = .next t ∧
      (∀ (i : Nat) (h : i < 127), t.rxFields[i] =
        if i < s.decLen.toNat / 2 then s.decBuf.read (2 * i + 1) ++ s.decBuf.read (2 * i) else 0) ∧
      t = { s with
        events := rest
        rxq := q
        rxFields := t.rxFields
        rxCode := s.decCode
        rxLen := s.decLen
        rxDir := s.decDir
        rxTail := if s.decLen.toNat % 2 = 1 then s.decBuf.read (s.decLen.toNat - 1) else 0
        odd := decide (s.decLen.toNat % 2 = 1)
        unknown := !inCatalog s.decCode
        short := decide (s.decLen.toNat / 2 < minFields s.decCode)
        err := .ok
        phase := .idle })

/-- R201: a frame with a code outside K commits like any other, with UNKNOWN = 1 and ERR = 0. -/
def Obligations.UnknownCodesCommitRaw : Prop :=
  (∀ (s : State) (q : List RxItem) (rest : List Event), s.events = .decoder :: rest → s.phase = .chk →
    s.rxq = .byte s.decCsum :: q → inCatalog s.decCode = false →
    ∃ t, step s = .next t ∧ t.unknown = true ∧ t.short = false ∧ t.err = .ok ∧ t.rxCode = s.decCode ∧
      ∀ (i : Nat) (h : i < 127), t.rxFields[i] =
        if i < s.decLen.toNat / 2 then s.decBuf.read (2 * i + 1) ++ s.decBuf.read (2 * i) else 0) ∧
  (∀ (code n : Byte) (s : State), inCatalog code = false → s.phase = .idle → n.toNat ≤ 127 →
    ∃ t, exec (.encode code n) s = .next t ∧ t.err = .ok ∧
      t.txq = s.txq ++ frameOfFields (if s.cfgEncdir = .request then 0x3C else 0x3E) code (s.encFields.toList.take n.toNat))

/-- R172: EOS ends an armed decode: StreamUnavailable before the marker is found, MalformedSequence after it. -/
def Obligations.EndOfStreamEndsDecode : Prop :=
  ∀ (s : State) (q : List RxItem) (rest : List Event), s.events = .decoder :: rest → s.rxq = .eos :: q →
    (s.phase = .hunt ∨ s.phase = .gotS ∨ s.phase = .gotM →
      step s = .next { s with events := rest, rxq := q, err := .streamUnavailable, phase := .idle }) ∧
    (s.phase = .len ∨ s.phase = .code ∨ s.phase = .payload ∨ s.phase = .chk →
      step s = .next { s with events := rest, rxq := q, err := .malformedSequence, phase := .idle })

/-- The decoder waits: IDLE, or armed on an empty RXQ, a DECODER event changes nothing (R161; that such an event may be
scheduled at all is the model's choice, log entry 3). -/
def Obligations.DecoderWaitsWithoutAStep : Prop :=
  ∀ (s : State) (rest : List Event), s.events = .decoder :: rest → s.phase = .idle ∨ s.rxq = [] →
    step s = .next { s with events := rest }

/-- R304: the stream-error input. -/
def Obligations.StreamErrorAbandonsDecode : Prop :=
  ∀ (s : State) (rest : List Event), s.events = .streamError :: rest →
    step s = .next { s with events := rest, err := .streamUnavailable, phase := .idle }

/-- TRANSPORT appends at the tail of RXQ and takes from the head of TXQ, and changes nothing else (R48, R49). -/
def Obligations.TransportMovesQueueEnds : Prop :=
  (∀ (s : State) (x : RxItem) (rest : List Event), s.events = .receive x :: rest →
    step s = .next { s with events := rest, rxq := s.rxq ++ [x] }) ∧
  (∀ (s : State) (b : Byte) (q : List Byte) (rest : List Event), s.events = .send :: rest → s.txq = b :: q →
    step s = .next { s with events := rest, txq := q })

/-! ## The decoder over whole frames -/

/-- R174: from HUNT the decoder reaches LEN exactly on the last byte of the earliest accepted marker, and every byte before it
is discarded; without a marker it stays in the hunt. -/
def Obligations.HuntFindsEarliestMarker : Prop :=
  ∀ (s : State) (bs : List Byte) (q : List RxItem) (rest : List Event), s.phase = .hunt →
    s.rxq = bs.map .byte ++ q → s.events = List.replicate bs.length .decoder ++ rest →
    (Claim.NoMarker s.cfgAccept bs → ∃ t, Claim.RunsTo bs.length s t ∧
      (t.phase = .hunt ∨ t.phase = .gotS ∨ t.phase = .gotM) ∧
      t = { s with events := rest, rxq := q, phase := t.phase }) ∧
    (∀ (u : List Byte) (d : Byte), bs = u ++ [0x24, 0x4D, d] → Claim.Admits s.cfgAccept d →
      Claim.NoEarlierMarker s.cfgAccept bs →
      Claim.RunsTo bs.length s { s with events := rest, rxq := q, decDir := d, phase := .len })

/-- A whole frame, from DECODE on: after 6 + L decoder steps it is committed if its checksum byte is right, and rejected with
ERR = 1 and the results kept if not; the items after it stay (R100, R103, R160 to R171, R178). -/
def Obligations.WholeFrameCommitsOrRejects : Prop :=
  ∀ (s : State) (d code k : Byte) (payload : List Byte) (q : List RxItem) (rest : List Event),
    s.phase = .idle → s.decBuf.wf = true → Claim.Admits s.cfgAccept d → payload.length ≤ 255 →
    s.rxq = ([0x24, 0x4D, d, BitVec.ofNat 8 payload.length, code] ++ payload ++ [k]).map .byte ++ q →
    s.events = .host 0x00000002 :: (List.replicate (6 + payload.length) .decoder ++ rest) →
    ∃ t, Claim.RunsTo (7 + payload.length) s t ∧ t.phase = .idle ∧ t.rxq = q ∧ t.events = rest ∧
      Claim.OutsideDecoderSame s t ∧
      (k = Claim.xorAll (BitVec.ofNat 8 payload.length :: code :: payload) →
        t.err = .ok ∧ Claim.Committed t d code payload) ∧
      (k ≠ Claim.xorAll (BitVec.ofNat 8 payload.length :: code :: payload) →
        t.err = .checksumMismatch ∧ Claim.SameResults s t)

/-- R147: what ENCODE queues, a decoder that admits its direction byte receives: the code, twice the field count, the fields,
0x0000 above them, ERR = 0 and ODD = 0, after 6 + 2N decoder steps. -/
def Obligations.EncodeThenDecodeRoundTrip : Prop :=
  ∀ (e : State) (code n : Byte), e.phase = .idle → n.toNat ≤ 127 →
    ∃ frame e', exec (.encode code n) e = .next e' ∧ e'.txq = e.txq ++ frame ∧
      ∀ (s : State) (q : List RxItem) (rest : List Event), s.phase = .idle → s.decBuf.wf = true →
        Claim.Admits s.cfgAccept (if e.cfgEncdir = .request then 0x3C else 0x3E) →
        s.rxq = frame.map .byte ++ q →
        s.events = .host 0x00000002 :: (List.replicate (6 + 2 * n.toNat) .decoder ++ rest) →
        ∃ t, Claim.RunsTo (7 + 2 * n.toNat) s t ∧ t.err = .ok ∧ t.rxCode = code ∧ t.rxLen.toNat = 2 * n.toNat ∧
          t.odd = false ∧
          ∀ (i : Nat) (h : i < 127), t.rxFields[i] = if i < n.toNat then e.encFields[i] else 0x0000

/-- R148: one flipped bit in the code byte or a payload byte of a frame that R143 makes gives ChecksumMismatch with the
results kept; the recomputed checksum differs from the received one in that bit alone. -/
def Obligations.FlippedBitIsDetected : Prop :=
  ∀ (s : State) (d code : Byte) (f : List Half) (pos bit : Nat) (q : List RxItem) (rest : List Event),
    f.length ≤ 127 → s.phase = .idle → s.decBuf.wf = true → Claim.Admits s.cfgAccept d →
    4 ≤ pos → pos < 5 + 2 * f.length → bit < 8 →
    s.rxq = ((frameOfFields d code f).set pos ((frameOfFields d code f).getD pos 0 ^^^ (0x01 <<< bit))).map .byte ++ q →
    s.events = .host 0x00000002 :: (List.replicate (6 + 2 * f.length) .decoder ++ rest) →
    ∃ t, Claim.RunsTo (7 + 2 * f.length) s t ∧ t.phase = .idle ∧ t.err = .checksumMismatch ∧ Claim.SameResults s t ∧
      t.decCsum ^^^ (frameOfFields d code f).getD (5 + 2 * f.length) 0 = 0x01 <<< bit

/-- R175, the direction from the garbage: garbage bytes without a marker (and without EOS), then a valid frame: the frame is
committed. -/
def Obligations.GarbageBeforeFrameIsSkipped : Prop :=
  ∀ (s : State) (g : List Byte) (d code : Byte) (f : List Half) (q : List RxItem) (rest : List Event),
    s.phase = .idle → s.decBuf.wf = true → Claim.Admits s.cfgAccept d → f.length ≤ 127 → Claim.NoMarker s.cfgAccept g →
    s.rxq = (g ++ frameOfFields d code f).map .byte ++ q →
    s.events = .host 0x00000002 :: (List.replicate (g.length + (6 + 2 * f.length)) .decoder ++ rest) →
    ∃ t, Claim.RunsTo (1 + (g.length + (6 + 2 * f.length))) s t ∧ t.phase = .idle ∧ t.err = .ok ∧ t.rxq = q ∧
      t.rxCode = code ∧ t.rxDir = d ∧ t.rxLen.toNat = 2 * f.length ∧
      ∀ (i : Nat) (h : i < 127), t.rxFields[i] = f.getD i 0x0000

/-! ## Invariants and whole-machine rules -/

/-- The coherence of the registers is kept by every step of every agent. -/
def Obligations.EveryStepKeepsCoherence : Prop := ∀ s t : State, Coherent s → step s = .next t → Coherent t

/-- The reset state is coherent, whatever is scheduled. -/
def Obligations.ResetStateIsCoherent : Prop := ∀ evs : List Event, Coherent { State.reset with events := evs }

/-- A coherent state always has a next state: no reachable state stops the machine. That there is one with nothing scheduled,
and for an event whose agent has no step, is the model's own choice (log entries 2 and 3). -/
def Obligations.CoherentStatesAlwaysStep : Prop := ∀ s : State, Coherent s → ∃ t, step s = .next t

/-- From reset every schedule runs for any number of steps, through coherent states. The number of steps is not bounded by the
length of the schedule: past its end a step holds the state, and that this counts as a step is the model's own choice (log
entry 2, by R324 the hardware only holds its state there), as is the step of an event whose agent has none (log entry 3). The
schedule itself is the model's (log entry 1). -/
def Obligations.EveryRunFromResetGoesOn : Prop :=
  ∀ (evs : List Event) (k : Nat), ∃ t, Claim.RunsTo k { State.reset with events := evs } t ∧ Coherent t

/-- The fault bits are sticky, and set only by what R45 names: F_ILLEGAL by an illegal word, F_REENTRY by a command that needs
an idle decoder while BUSY; only RESET clears them. -/
def Obligations.FaultBitsStickUntilReset : Prop :=
  ∀ s t : State, step s = .next t →
    (s.fIllegal = true → t.fIllegal = true ∨ ∃ rest, s.events = .host 0x00000005 :: rest) ∧
    (s.fReentry = true → t.fReentry = true ∨ ∃ rest, s.events = .host 0x00000005 :: rest) ∧
    (t.fIllegal = true → s.fIllegal = true ∨ ∃ w rest, s.events = .host w :: rest ∧ Claim.IllegalWord w) ∧
    (t.fReentry = true → s.fReentry = true ∨ ∃ w rest i, s.events = .host w :: rest ∧ decodeCommand w = .ok i ∧
      needsIdle i = true ∧ s.phase ≠ .idle)

/-- R42: the result registers and frame flags change together, in the commit's step or RESET's, or not at all. -/
def Obligations.ResultsChangeOnlyByCommitOrReset : Prop :=
  ∀ s t : State, step s = .next t →
    Claim.SameResults s t ∨ (∃ rest, s.events = .host 0x00000005 :: rest ∧ Claim.SameResults State.reset t) ∨
    (∃ rest q, s.events = .decoder :: rest ∧ s.phase = .chk ∧ s.rxq = .byte s.decCsum :: q ∧
      Claim.Committed t s.decDir s.decCode ((List.range s.decLen.toNat).map s.decBuf.read))

/-- R43: ERR is written only at the points named there, with the values named there. -/
def Obligations.ErrWrittenOnlyAtNamedPoints : Prop :=
  ∀ s t : State, step s = .next t → t.err = s.err ∨ ∃ rest,
    (∃ w code n, s.events = .host w :: rest ∧ decodeCommand w = .ok (.encode code n) ∧
      (t.err = .ok ∨ t.err = .lengthOverflow)) ∨
    (s.events = .host 0x00000002 :: rest ∧ t.err = .ok) ∨
    (s.events = .decoder :: rest ∧ s.phase ≠ .idle ∧ t.phase = .idle ∧
      (t.err = .ok ∨ t.err = .checksumMismatch ∨ t.err = .malformedSequence ∨ t.err = .streamUnavailable)) ∨
    (s.events = .host 0x00000004 :: rest ∧ s.phase ≠ .idle ∧ t.err = .timeout) ∨
    (s.events = .streamError :: rest ∧ t.err = .streamUnavailable) ∨
    (s.events = .host 0x00000005 :: rest ∧ t.err = .ok)

/-- CFG is written only by SETCFG and RESET, ENC_FIELDS only by WFIELD and RESET (R39, R46, R47, R52). -/
def Obligations.ConfigAndFieldsHaveOneWriter : Prop :=
  ∀ s t : State, step s = .next t →
    (t.cfgAccept = s.cfgAccept ∧ t.cfgEncdir = s.cfgEncdir ∨ ∃ w rest, s.events = .host w :: rest ∧
      (decodeCommand w = .ok .reset ∨ ∃ a d, decodeCommand w = .ok (.setcfg a d) ∧ s.phase = .idle)) ∧
    (t.encFields = s.encFields ∨ ∃ w rest, s.events = .host w :: rest ∧
      (decodeCommand w = .ok .reset ∨ ∃ i v, decodeCommand w = .ok (.wfield i v)))

/-- RXQ and TXQ are queues: each step leaves a queue, takes its head, adds at its tail, or empties it, and only the agents and
commands named do so (R48, R49, R82, R83). -/
def Obligations.QueuesNeverReorder : Prop :=
  ∀ s t : State, step s = .next t →
    (t.rxq = s.rxq ∨ (∃ rest x, s.events = .receive x :: rest ∧ t.rxq = s.rxq ++ [x]) ∨
      (∃ rest x, s.events = .decoder :: rest ∧ s.phase ≠ .idle ∧ s.rxq = x :: t.rxq) ∨
      (t.rxq = [] ∧ ∃ w rest, s.events = .host w :: rest ∧
        (decodeCommand w = .ok .reset ∨ ∃ tx, decodeCommand w = .ok (.flush tx true)))) ∧
    (t.txq = s.txq ∨ (∃ rest b, s.events = .send :: rest ∧ s.txq = b :: t.txq) ∨
      (∃ w rest code n, s.events = .host w :: rest ∧ decodeCommand w = .ok (.encode code n) ∧
        t.txq = s.txq ++ frameOfFields (if s.cfgEncdir = .request then 0x3C else 0x3E) code (s.encFields.toList.take n.toNat)) ∨
      (t.txq = [] ∧ ∃ w rest, s.events = .host w :: rest ∧
        (decodeCommand w = .ok .reset ∨ ∃ rx, decodeCommand w = .ok (.flush true rx))))

/-- The decoder never waits for ever on items that are there: an armed decoder with an item takes exactly that item (R161). -/
def Obligations.ArmedDecoderTakesOneItem : Prop :=
  ∀ (s : State) (x : RxItem) (q : List RxItem) (rest : List Event), Coherent s → s.phase ≠ .idle →
    s.events = .decoder :: rest → s.rxq = x :: q →
    ∃ t, step s = .next t ∧ t.rxq = q ∧ t.events = rest ∧ Claim.OutsideDecoderSame s t

/-- The events of one clocked cycle are applied in R307's order, none lost or added. -/
def Obligations.CycleOrderIsTheRanking : Prop :=
  (∀ es : List Event, (cycleOrder es).Perm es ∧ (cycleOrder es).Pairwise fun a b => clockRank a ≤ clockRank b) ∧
  (∀ (w : Word) (x : RxItem), w ≠ 0x00000005 →
    clockRank (.host 0x00000005) < clockRank .streamError ∧ clockRank .streamError < clockRank (.host w) ∧
    clockRank (.host w) < clockRank .decoder ∧ clockRank .decoder < clockRank (.receive x) ∧
    clockRank (.receive x) = clockRank .send)

/-- SEND code, f0, ..., f(k-1) as R131 expands it, issued to an idle block, loads the fields and queues their frame. The clause
that the result port ends empty is the model's own reading (log entry 4, DEDUCED from R260: the issue of a command word empties
the port), and that the commands are events of a schedule is the model's choice (log entry 1). -/
def Obligations.SendQueuesTheFieldFrame : Prop :=
  ∀ (s : State) (code : Byte) (fields : List Half) (is : List Instr) (rest : List Event),
    sendCommands code fields = some is → s.phase = .idle → s.events = issueAll is ++ rest →
    ∃ t, Claim.RunsTo (fields.length + 1) s t ∧
      (∀ (i : Nat) (h : i < 127), t.encFields[i] = fields.getD i s.encFields[i]) ∧
      t = { s with
        events := rest
        resultPort := none
        encFields := t.encFields
        txq := s.txq ++ frameOfFields (if s.cfgEncdir = .request then 0x3C else 0x3E) code fields
        err := .ok }

/-- R275: an exchange succeeds exactly when the STATUS the HOST reads has ERR = 0 and neither fault bit, and its kind is ERR. -/
def Obligations.ExchangeOutcomeReadsStatus : Prop :=
  ∀ s : State, (exchangeSucceeds s.statusWord = true ↔ s.err = .ok ∧ s.fIllegal = false ∧ s.fReentry = false) ∧
    (exchangeKind s.statusWord).toNat = Claim.errNumber s.err ∧
    (exchangeSkipsDecode s.statusWord = true ↔ s.err = .lengthOverflow) ∧
    (recordUsable s.statusWord = true ↔ s.err = .ok ∧ s.fIllegal = false ∧ s.fReentry = false ∧ s.short = false) ∧
    (waitDone .notBusy s.statusWord = true ↔ s.phase = .idle) ∧ (waitDone .txEmpty s.statusWord = true ↔ s.txq = [])
end

