-- ==== Sys2Proof/Laws/Assembler.lean ====
section
/-! SUPPORT. The assembler, line by line, for the lines that have operands. -/

namespace Sys2Proof.Machine

theorem assemble_encode (code n : Nat) : assemble (.encode code n) =
    if code ≤ 255 ∧ n ≤ 255 then some (BitVec.ofNat 32 n <<< 16 ||| BitVec.ofNat 32 code <<< 8 ||| 0x1) else none := rfl

theorem assemble_wfield (i : Nat) (v : Int) : assemble (.wfield i v) =
    if i ≤ 126 ∧ -32768 ≤ v ∧ v ≤ 65535 then
      some ((BitVec.ofInt 16 v : Half).setWidth 32 <<< 16 ||| BitVec.ofNat 32 i <<< 8 ||| 0x7)
    else none := rfl

theorem assemble_rfield (i : Nat) : assemble (.rfield i) =
    if i ≤ 126 then some (BitVec.ofNat 32 i <<< 8 ||| 0x8) else none := rfl

end Sys2Proof.Machine
end

