-- ==== Sys2Proof/Laws/Decode.lean ====
section
/-! SUPPORT. The fields of each command-word format, read back from the word, and each word put together again from its
fields. -/

namespace Sys2Proof

/-- The fields of a CN word. -/
theorem fields_wordCN (op : BitVec 4) :
    opField (wordCN op) = op ∧ lowReserved (wordCN op) = 0 ∧ operandField (wordCN op) = 0 := by
  revert op; decide

/-- The fields of a CE word. -/
theorem fields_wordCE (code n : Byte) : opField (wordCE code n) = 1 ∧ lowReserved (wordCE code n) = 0 ∧
    ceReserved (wordCE code n) = 0 ∧ codeField (wordCE code n) = code ∧ countField (wordCE code n) = n := by
  refine ⟨?_, ?_, ?_, ?_, ?_⟩ <;> simp only [wordCE, opField, lowReserved, ceReserved, codeField, countField] <;>
    (apply BitVec.eq_of_getLsbD_eq
     intro i hi
     simp only [BitVec.getLsbD_extractLsb', BitVec.getLsbD_append, hi, decide_true, Bool.true_and]
     interval_cases i <;> simp)

/-- The fields of a CF word. -/
theorem fields_wordCF (tx rx : Bool) : opField (wordCF tx rx) = 3 ∧ lowReserved (wordCF tx rx) = 0 ∧
    cfReserved (wordCF tx rx) = 0 ∧ txField (wordCF tx rx) = tx ∧ rxField (wordCF tx rx) = rx := by
  revert tx rx; decide

/-- The fields of a CS word. -/
theorem fields_wordCS (accept : BitVec 2) (encdir : Direction) : opField (wordCS accept encdir) = 6 ∧
    lowReserved (wordCS accept encdir) = 0 ∧ csReserved (wordCS accept encdir) = 0 ∧
    acceptField (wordCS accept encdir) = accept ∧ encdirField (wordCS accept encdir) = directionBit encdir := by
  cases encdir <;> revert accept <;> decide

/-- The fields of a CW word. -/
theorem fields_wordCW (idx : BitVec 7) (value : Half) : opField (wordCW idx value) = 7 ∧
    lowReserved (wordCW idx value) = 0 ∧ idxReserved (wordCW idx value) = false ∧ idxField (wordCW idx value) = idx ∧
    valueField (wordCW idx value) = value := by
  refine ⟨?_, ?_, ?_, ?_, ?_⟩ <;>
    simp only [wordCW, opField, lowReserved, idxReserved, idxField, valueField] <;>
    first
    | (apply BitVec.eq_of_getLsbD_eq
       intro i hi
       simp only [BitVec.getLsbD_extractLsb', BitVec.getLsbD_append, hi, decide_true, Bool.true_and]
       interval_cases i <;> simp)
    | (simp only [BitVec.getLsbD_append]; simp)

/-- The fields of a CR word. -/
theorem fields_wordCR (idx : BitVec 7) : opField (wordCR idx) = 8 ∧ lowReserved (wordCR idx) = 0 ∧
    idxReserved (wordCR idx) = false ∧ idxField (wordCR idx) = idx ∧ valueField (wordCR idx) = 0 := by
  revert idx; decide

/-- A word is its operand bits, `w[7:4]` and its opcode. -/
theorem word_eq_fields (w : Word) : w = operandField w ++ lowReserved w ++ opField w := by
  apply BitVec.eq_of_getLsbD_eq
  intro i hi
  simp only [operandField, lowReserved, opField, BitVec.getLsbD_extractLsb', BitVec.getLsbD_append]
  interval_cases i <;> simp

/-- The operand bits in the order CE has them. -/
theorem operandField_CE (w : Word) : operandField w = ceReserved w ++ countField w ++ codeField w := by
  apply BitVec.eq_of_getLsbD_eq
  intro i hi
  simp only [operandField, ceReserved, countField, codeField, BitVec.getLsbD_extractLsb', BitVec.getLsbD_append]
  interval_cases i <;> simp

/-- The operand bits in the order CF has them. -/
theorem operandField_CF (w : Word) :
    operandField w = cfReserved w ++ BitVec.ofBool (txField w) ++ BitVec.ofBool (rxField w) := by
  apply BitVec.eq_of_getLsbD_eq
  intro i hi
  simp only [operandField, cfReserved, txField, rxField, BitVec.getLsbD_extractLsb', BitVec.getLsbD_append,
    BitVec.getLsbD_ofBool]
  interval_cases i <;> simp

/-- The operand bits in the order CS has them. -/
theorem operandField_CS (w : Word) :
    operandField w = csReserved w ++ BitVec.ofBool (encdirField w) ++ acceptField w := by
  apply BitVec.eq_of_getLsbD_eq
  intro i hi
  simp only [operandField, csReserved, encdirField, acceptField, BitVec.getLsbD_extractLsb', BitVec.getLsbD_append,
    BitVec.getLsbD_ofBool]
  interval_cases i <;> simp

/-- The operand bits in the order CW and CR have them. -/
theorem operandField_CW (w : Word) :
    operandField w = valueField w ++ BitVec.ofBool (idxReserved w) ++ idxField w := by
  apply BitVec.eq_of_getLsbD_eq
  intro i hi
  simp only [operandField, valueField, idxReserved, idxField, BitVec.getLsbD_extractLsb', BitVec.getLsbD_append,
    BitVec.getLsbD_ofBool]
  interval_cases i <;> simp

/-- A direction's bit names that direction. -/
@[simp] theorem directionOfBit_directionBit (d : Direction) : directionOfBit (directionBit d) = d := by
  cases d <;> rfl

/-- The direction a bit names has that bit. -/
@[simp] theorem directionBit_directionOfBit (b : Bool) : directionBit (directionOfBit b) = b := by
  cases b <;> rfl

/-- OP as a number. -/
theorem opField_toNat (w : Word) : (opField w).toNat = w.toNat % 16 := by simp [opField]

/-- IDX as a number. -/
theorem idxField_toNat (w : Word) : (idxField w).toNat = w.toNat / 256 % 128 := by
  simp [idxField, Nat.shiftRight_eq_div_pow]

/-- ACCEPT as a number. -/
theorem acceptField_toNat (w : Word) : (acceptField w).toNat = w.toNat / 256 % 4 := by
  simp [acceptField, Nat.shiftRight_eq_div_pow]

/-- The CE word by shifts (R111). -/
theorem wordCE_eq (code n : Byte) :
    (n.setWidth 32 <<< 16 ||| code.setWidth 32 <<< 8 ||| 0x1 : Word) = wordCE code n := by
  apply BitVec.eq_of_getLsbD_eq
  intro i hi
  simp only [wordCE, BitVec.getLsbD_or, BitVec.getLsbD_shiftLeft, BitVec.getLsbD_setWidth, BitVec.getLsbD_append]
  interval_cases i <;> simp

/-- The CW word by shifts (R111). -/
theorem wordCW_eq (idx : BitVec 7) (value : Half) :
    (value.setWidth 32 <<< 16 ||| idx.setWidth 32 <<< 8 ||| 0x7 : Word) = wordCW idx value := by
  apply BitVec.eq_of_getLsbD_eq
  intro i hi
  simp only [wordCW, BitVec.getLsbD_or, BitVec.getLsbD_shiftLeft, BitVec.getLsbD_setWidth, BitVec.getLsbD_append]
  interval_cases i <;> simp

/-- The CR word by shifts (R111). -/
theorem wordCR_eq (idx : BitVec 7) : (idx.setWidth 32 <<< 8 ||| 0x8 : Word) = wordCR idx := by
  revert idx; decide

/-- The CF word by shifts (R111). -/
theorem wordCF_eq (tx rx : Bool) :
    ((BitVec.ofBool tx).setWidth 32 <<< 9 ||| (BitVec.ofBool rx).setWidth 32 <<< 8 ||| 0x3 : Word) = wordCF tx rx := by
  revert tx rx; decide

end Sys2Proof
end

