-- ==== Sys2Proof/Laws/Encode.lean ====
section
/-! SUPPORT. The bytes of fields and frames, and the checksum. -/

namespace Sys2Proof

/-- Two bytes per field. -/
@[simp] theorem fieldBytes_length (f : List Half) : (fieldBytes f).length = 2 * f.length := by
  induction f with
  | nil => rfl
  | cons a f ih =>
    simp only [fieldBytes, List.length_cons, ih]
    omega

/-- Field `i` stands at bytes 2i and 2i+1, low byte first (R72). -/
theorem fieldBytes_getElem? (f : List Half) : ∀ (i : Nat) (h : i < f.length),
    (fieldBytes f)[2 * i]? = some (lowByte f[i]) ∧ (fieldBytes f)[2 * i + 1]? = some (highByte f[i]) := by
  induction f with
  | nil => intro i h; cases h
  | cons a f ih =>
    intro i h
    cases i with
    | zero => exact ⟨rfl, rfl⟩
    | succ i => exact ih i (by simpa using h)

/-- A field is its two bytes. -/
theorem highByte_append_lowByte (f : Half) : highByte f ++ lowByte f = f := by
  apply BitVec.eq_of_getLsbD_eq
  intro i hi
  simp only [highByte, lowByte, BitVec.getLsbD_append, BitVec.getLsbD_extractLsb']
  interval_cases i <;> simp

/-- The fields of a field list's bytes are the list (R72, R102). -/
theorem fieldBytes_fields (f : List Half) (i : Nat) :
    (if i < (fieldBytes f).length / 2 then (fieldBytes f).getD (2 * i + 1) 0 ++ (fieldBytes f).getD (2 * i) 0 else 0) =
      f.getD i 0 := by
  rw [fieldBytes_length]
  split
  · rename_i h
    have h : i < f.length := by omega
    obtain ⟨h1, h2⟩ := fieldBytes_getElem? f i h
    simp only [List.getD_eq_getElem?_getD, h1, h2, Option.getD_some, highByte_append_lowByte]
    simp [h]
  · rename_i h
    have h : f.length ≤ i := by omega
    simp [h]

/-- One payload byte more goes into the running XOR (R140). -/
theorem checksum_append (len code : Byte) (p : List Byte) (b : Byte) :
    checksum len code (p ++ [b]) = checksum len code p ^^^ b := by simp [checksum]

/-- An empty payload's checksum (R140, R177 (a)). -/
theorem checksum_nil (len code : Byte) : checksum len code [] = len ^^^ code := by simp [checksum]

/-- A concatenation as a number. -/
theorem toNat_append_eq {m n : Nat} (a : BitVec m) (b : BitVec n) : (a ++ b).toNat = a.toNat * 2 ^ n + b.toNat := by
  rw [BitVec.toNat_append, ← Nat.shiftLeft_add_eq_or_of_lt b.isLt, Nat.shiftLeft_eq]

/-- One bit as a number. -/
theorem toNat_ofBool_eq (b : Bool) : (BitVec.ofBool b).toNat = b.toNat := by cases b <;> rfl

/-- A length that fits one byte keeps its value there. -/
theorem toNat_lengthByte {n : Nat} (h : n ≤ 255) : (BitVec.ofNat 8 n).toNat = n := by
  rw [BitVec.toNat_ofNat]
  exact Nat.mod_eq_of_lt (by omega)

end Sys2Proof
end

