-- ==== Sys2Proof/Laws/Memory.lean ====
section
/-! SUPPORT. DEC_BUF as a store: a read after a write, the canonical form kept, and the bytes read as a list. -/

namespace Sys2Proof.Machine

/-- In a canonical list whose offsets start above `a`, offset `a` is unlisted. -/
theorem readCells_below (t : List Host.Cell) : ∀ lo a, cellsWf lo t = true → a < lo → readCells t a = unlistedByte := by
  induction t with
  | nil => intros; rfl
  | cons c t ih =>
    obtain ⟨k, v⟩ := c
    intro lo a h ha
    simp only [cellsWf, Bool.and_eq_true, decide_eq_true_eq] at h
    rw [readCells, if_neg (by omega)]
    exact ih (k + 1) a h.2 (by omega)

/-- A canonical list is canonical from any lower start. -/
theorem cellsWf_mono (t : List Host.Cell) (lo lo' : Nat) (h : cellsWf lo t = true) (hl : lo' ≤ lo) :
    cellsWf lo' t = true := by
  cases t with
  | nil => rfl
  | cons c t =>
    obtain ⟨k, v⟩ := c
    simp only [cellsWf, Bool.and_eq_true, decide_eq_true_eq] at h ⊢
    exact ⟨⟨⟨by omega, h.1.1.2⟩, h.1.2⟩, h.2⟩

/-- A write at an existing offset keeps the canonical form. -/
theorem cellsWf_writeCells (t : List Host.Cell) (a : Nat) (b : Byte) (ha : a < Config.decBufSize) :
    ∀ lo, cellsWf lo t = true → lo ≤ a → cellsWf lo (writeCells t a b) = true := by
  induction t with
  | nil =>
    intro lo _ hl
    unfold writeCells
    split
    · rfl
    · simp [cellsWf, *]
  | cons c t ih =>
    obtain ⟨k, v⟩ := c
    intro lo h hl
    have h' := h
    simp only [cellsWf, Bool.and_eq_true, decide_eq_true_eq] at h
    unfold writeCells
    split
    · split
      · exact h'
      · simp only [cellsWf, Bool.and_eq_true, decide_eq_true_eq]
        exact ⟨⟨⟨hl, ha⟩, by assumption⟩, ⟨⟨by omega, h.1.1.2⟩, h.1.2⟩, h.2⟩
    · split
      · subst k
        split
        · exact cellsWf_mono t (a + 1) lo h.2 (by omega)
        · simp only [cellsWf, Bool.and_eq_true, decide_eq_true_eq]
          exact ⟨⟨⟨hl, ha⟩, by assumption⟩, h.2⟩
      · simp only [cellsWf, Bool.and_eq_true, decide_eq_true_eq]
        exact ⟨h.1, ih (k + 1) h.2 (by omega)⟩

/-- Reading the offset just written gives the byte written. -/
theorem readCells_writeCells_same (t : List Host.Cell) (a : Nat) (b : Byte) :
    ∀ lo, cellsWf lo t = true → readCells (writeCells t a b) a = b := by
  induction t with
  | nil =>
    intro lo _
    unfold writeCells
    split
    · simp [readCells, *]
    · simp [readCells]
  | cons c t ih =>
    obtain ⟨k, v⟩ := c
    intro lo h
    simp only [cellsWf, Bool.and_eq_true, decide_eq_true_eq] at h
    unfold writeCells
    split
    · split
      · subst b
        rw [readCells, if_neg (by omega)]
        exact readCells_below t (k + 1) a h.2 (by omega)
      · simp [readCells]
    · split
      · subst k
        split
        · subst b
          exact readCells_below t (a + 1) a h.2 (by omega)
        · simp [readCells]
      · rw [readCells, if_neg (by omega)]
        exact ih (k + 1) h.2

/-- Every other offset reads as before. -/
theorem readCells_writeCells_other (t : List Host.Cell) (a a' : Nat) (b : Byte) (hne : a' ≠ a) :
    ∀ lo, cellsWf lo t = true → readCells (writeCells t a b) a' = readCells t a' := by
  induction t with
  | nil =>
    intro lo _
    unfold writeCells
    split
    · rfl
    · simp [readCells, Ne.symm hne]
  | cons c t ih =>
    obtain ⟨k, v⟩ := c
    intro lo h
    simp only [cellsWf, Bool.and_eq_true, decide_eq_true_eq] at h
    unfold writeCells
    split
    · split
      · rfl
      · rw [readCells, if_neg (Ne.symm hne)]
    · split
      · subst k
        split
        · rw [readCells, if_neg (Ne.symm hne)]
        · simp [readCells, Ne.symm hne]
      · simp only [readCells]
        split
        · rfl
        · exact ih (k + 1) h.2

namespace Memory

/-- A write succeeds exactly at the offsets DEC_BUF has. -/
theorem write?_eq_some (m m' : Memory) (a : Nat) (b : Byte) :
    m.write? a b = some m' ↔ a < 255 ∧ m' = ⟨writeCells m.cells a b⟩ := by
  unfold Memory.write? Config.decBufSize
  split <;> simp_all [eq_comm]

/-- Every memory operation keeps the canonical form: the only writing one does. -/
theorem wf_write? {m m' : Memory} {a : Nat} {b : Byte} (h : m.wf = true) (hw : m.write? a b = some m') : m'.wf = true := by
  obtain ⟨ha, rfl⟩ := (write?_eq_some m m' a b).1 hw
  exact cellsWf_writeCells m.cells a b ha 0 h (Nat.zero_le a)

/-- A read after a write to the same offset gives the value written. -/
theorem read_write?_same {m m' : Memory} {a : Nat} {b : Byte} (h : m.wf = true) (hw : m.write? a b = some m') :
    m'.read a = b := by
  obtain ⟨_, rfl⟩ := (write?_eq_some m m' a b).1 hw
  exact readCells_writeCells_same m.cells a b 0 h

/-- A write leaves every other offset alone. -/
theorem read_write?_other {m m' : Memory} {a a' : Nat} {b : Byte} (h : m.wf = true) (hw : m.write? a b = some m')
    (hne : a' ≠ a) : m'.read a' = m.read a' := by
  obtain ⟨_, rfl⟩ := (write?_eq_some m m' a b).1 hw
  exact readCells_writeCells_other m.cells a a' b hne 0 h

@[simp] theorem firstBytes_zero (m : Memory) : m.firstBytes 0 = [] := rfl

@[simp] theorem firstBytes_length (m : Memory) (n : Nat) : (m.firstBytes n).length = n := by simp [Memory.firstBytes]

/-- One byte more at the end. -/
theorem firstBytes_succ (m : Memory) (n : Nat) : m.firstBytes (n + 1) = m.firstBytes n ++ [m.read n] := by
  simp [Memory.firstBytes, List.range_succ]

/-- Writing offset `n` leaves the bytes before it. -/
theorem firstBytes_write? {m m' : Memory} {n : Nat} {b : Byte} (h : m.wf = true) (hw : m.write? n b = some m') :
    m'.firstBytes (n + 1) = m.firstBytes n ++ [b] := by
  rw [firstBytes_succ, read_write?_same h hw]
  congr 1
  unfold Memory.firstBytes
  exact List.map_congr_left fun i hi => read_write?_other h hw (by simp at hi; omega)

end Memory

end Sys2Proof.Machine
end

