-- ==== Sys2Proof/Laws/State.lean ====
section
/-! SUPPORT. One lemma per field per named update of State, each true by rfl, so that no proof unfolds a record update. -/

namespace Sys2Proof.Machine.State

section
variable (s : State) (k : ErrKind)
@[simp] theorem setErr_phase : (s.setErr k).phase = s.phase := rfl
@[simp] theorem setErr_decLen : (s.setErr k).decLen = s.decLen := rfl
@[simp] theorem setErr_decCode : (s.setErr k).decCode = s.decCode := rfl
@[simp] theorem setErr_decDir : (s.setErr k).decDir = s.decDir := rfl
@[simp] theorem setErr_decCnt : (s.setErr k).decCnt = s.decCnt := rfl
@[simp] theorem setErr_decCsum : (s.setErr k).decCsum = s.decCsum := rfl
@[simp] theorem setErr_decBuf : (s.setErr k).decBuf = s.decBuf := rfl
@[simp] theorem setErr_encFields : (s.setErr k).encFields = s.encFields := rfl
@[simp] theorem setErr_rxFields : (s.setErr k).rxFields = s.rxFields := rfl
@[simp] theorem setErr_rxCode : (s.setErr k).rxCode = s.rxCode := rfl
@[simp] theorem setErr_rxLen : (s.setErr k).rxLen = s.rxLen := rfl
@[simp] theorem setErr_rxDir : (s.setErr k).rxDir = s.rxDir := rfl
@[simp] theorem setErr_rxTail : (s.setErr k).rxTail = s.rxTail := rfl
@[simp] theorem setErr_err : (s.setErr k).err = k := rfl
@[simp] theorem setErr_unknown : (s.setErr k).unknown = s.unknown := rfl
@[simp] theorem setErr_short : (s.setErr k).short = s.short := rfl
@[simp] theorem setErr_odd : (s.setErr k).odd = s.odd := rfl
@[simp] theorem setErr_fIllegal : (s.setErr k).fIllegal = s.fIllegal := rfl
@[simp] theorem setErr_fReentry : (s.setErr k).fReentry = s.fReentry := rfl
@[simp] theorem setErr_cfgAccept : (s.setErr k).cfgAccept = s.cfgAccept := rfl
@[simp] theorem setErr_cfgEncdir : (s.setErr k).cfgEncdir = s.cfgEncdir := rfl
@[simp] theorem setErr_rxq : (s.setErr k).rxq = s.rxq := rfl
@[simp] theorem setErr_txq : (s.setErr k).txq = s.txq := rfl
@[simp] theorem setErr_resultPort : (s.setErr k).resultPort = s.resultPort := rfl
@[simp] theorem setErr_events : (s.setErr k).events = s.events := rfl
end

section
variable (s : State) (p : Phase)
@[simp] theorem setPhase_phase : (s.setPhase p).phase = p := rfl
@[simp] theorem setPhase_decLen : (s.setPhase p).decLen = s.decLen := rfl
@[simp] theorem setPhase_decCode : (s.setPhase p).decCode = s.decCode := rfl
@[simp] theorem setPhase_decDir : (s.setPhase p).decDir = s.decDir := rfl
@[simp] theorem setPhase_decCnt : (s.setPhase p).decCnt = s.decCnt := rfl
@[simp] theorem setPhase_decCsum : (s.setPhase p).decCsum = s.decCsum := rfl
@[simp] theorem setPhase_decBuf : (s.setPhase p).decBuf = s.decBuf := rfl
@[simp] theorem setPhase_encFields : (s.setPhase p).encFields = s.encFields := rfl
@[simp] theorem setPhase_rxFields : (s.setPhase p).rxFields = s.rxFields := rfl
@[simp] theorem setPhase_rxCode : (s.setPhase p).rxCode = s.rxCode := rfl
@[simp] theorem setPhase_rxLen : (s.setPhase p).rxLen = s.rxLen := rfl
@[simp] theorem setPhase_rxDir : (s.setPhase p).rxDir = s.rxDir := rfl
@[simp] theorem setPhase_rxTail : (s.setPhase p).rxTail = s.rxTail := rfl
@[simp] theorem setPhase_err : (s.setPhase p).err = s.err := rfl
@[simp] theorem setPhase_unknown : (s.setPhase p).unknown = s.unknown := rfl
@[simp] theorem setPhase_short : (s.setPhase p).short = s.short := rfl
@[simp] theorem setPhase_odd : (s.setPhase p).odd = s.odd := rfl
@[simp] theorem setPhase_fIllegal : (s.setPhase p).fIllegal = s.fIllegal := rfl
@[simp] theorem setPhase_fReentry : (s.setPhase p).fReentry = s.fReentry := rfl
@[simp] theorem setPhase_cfgAccept : (s.setPhase p).cfgAccept = s.cfgAccept := rfl
@[simp] theorem setPhase_cfgEncdir : (s.setPhase p).cfgEncdir = s.cfgEncdir := rfl
@[simp] theorem setPhase_rxq : (s.setPhase p).rxq = s.rxq := rfl
@[simp] theorem setPhase_txq : (s.setPhase p).txq = s.txq := rfl
@[simp] theorem setPhase_resultPort : (s.setPhase p).resultPort = s.resultPort := rfl
@[simp] theorem setPhase_events : (s.setPhase p).events = s.events := rfl
end

section
variable (s : State)
@[simp] theorem faultIllegal_phase : (s.faultIllegal).phase = s.phase := rfl
@[simp] theorem faultIllegal_decLen : (s.faultIllegal).decLen = s.decLen := rfl
@[simp] theorem faultIllegal_decCode : (s.faultIllegal).decCode = s.decCode := rfl
@[simp] theorem faultIllegal_decDir : (s.faultIllegal).decDir = s.decDir := rfl
@[simp] theorem faultIllegal_decCnt : (s.faultIllegal).decCnt = s.decCnt := rfl
@[simp] theorem faultIllegal_decCsum : (s.faultIllegal).decCsum = s.decCsum := rfl
@[simp] theorem faultIllegal_decBuf : (s.faultIllegal).decBuf = s.decBuf := rfl
@[simp] theorem faultIllegal_encFields : (s.faultIllegal).encFields = s.encFields := rfl
@[simp] theorem faultIllegal_rxFields : (s.faultIllegal).rxFields = s.rxFields := rfl
@[simp] theorem faultIllegal_rxCode : (s.faultIllegal).rxCode = s.rxCode := rfl
@[simp] theorem faultIllegal_rxLen : (s.faultIllegal).rxLen = s.rxLen := rfl
@[simp] theorem faultIllegal_rxDir : (s.faultIllegal).rxDir = s.rxDir := rfl
@[simp] theorem faultIllegal_rxTail : (s.faultIllegal).rxTail = s.rxTail := rfl
@[simp] theorem faultIllegal_err : (s.faultIllegal).err = s.err := rfl
@[simp] theorem faultIllegal_unknown : (s.faultIllegal).unknown = s.unknown := rfl
@[simp] theorem faultIllegal_short : (s.faultIllegal).short = s.short := rfl
@[simp] theorem faultIllegal_odd : (s.faultIllegal).odd = s.odd := rfl
@[simp] theorem faultIllegal_fIllegal : (s.faultIllegal).fIllegal = true := rfl
@[simp] theorem faultIllegal_fReentry : (s.faultIllegal).fReentry = s.fReentry := rfl
@[simp] theorem faultIllegal_cfgAccept : (s.faultIllegal).cfgAccept = s.cfgAccept := rfl
@[simp] theorem faultIllegal_cfgEncdir : (s.faultIllegal).cfgEncdir = s.cfgEncdir := rfl
@[simp] theorem faultIllegal_rxq : (s.faultIllegal).rxq = s.rxq := rfl
@[simp] theorem faultIllegal_txq : (s.faultIllegal).txq = s.txq := rfl
@[simp] theorem faultIllegal_resultPort : (s.faultIllegal).resultPort = s.resultPort := rfl
@[simp] theorem faultIllegal_events : (s.faultIllegal).events = s.events := rfl
end

section
variable (s : State)
@[simp] theorem faultReentry_phase : (s.faultReentry).phase = s.phase := rfl
@[simp] theorem faultReentry_decLen : (s.faultReentry).decLen = s.decLen := rfl
@[simp] theorem faultReentry_decCode : (s.faultReentry).decCode = s.decCode := rfl
@[simp] theorem faultReentry_decDir : (s.faultReentry).decDir = s.decDir := rfl
@[simp] theorem faultReentry_decCnt : (s.faultReentry).decCnt = s.decCnt := rfl
@[simp] theorem faultReentry_decCsum : (s.faultReentry).decCsum = s.decCsum := rfl
@[simp] theorem faultReentry_decBuf : (s.faultReentry).decBuf = s.decBuf := rfl
@[simp] theorem faultReentry_encFields : (s.faultReentry).encFields = s.encFields := rfl
@[simp] theorem faultReentry_rxFields : (s.faultReentry).rxFields = s.rxFields := rfl
@[simp] theorem faultReentry_rxCode : (s.faultReentry).rxCode = s.rxCode := rfl
@[simp] theorem faultReentry_rxLen : (s.faultReentry).rxLen = s.rxLen := rfl
@[simp] theorem faultReentry_rxDir : (s.faultReentry).rxDir = s.rxDir := rfl
@[simp] theorem faultReentry_rxTail : (s.faultReentry).rxTail = s.rxTail := rfl
@[simp] theorem faultReentry_err : (s.faultReentry).err = s.err := rfl
@[simp] theorem faultReentry_unknown : (s.faultReentry).unknown = s.unknown := rfl
@[simp] theorem faultReentry_short : (s.faultReentry).short = s.short := rfl
@[simp] theorem faultReentry_odd : (s.faultReentry).odd = s.odd := rfl
@[simp] theorem faultReentry_fIllegal : (s.faultReentry).fIllegal = s.fIllegal := rfl
@[simp] theorem faultReentry_fReentry : (s.faultReentry).fReentry = true := rfl
@[simp] theorem faultReentry_cfgAccept : (s.faultReentry).cfgAccept = s.cfgAccept := rfl
@[simp] theorem faultReentry_cfgEncdir : (s.faultReentry).cfgEncdir = s.cfgEncdir := rfl
@[simp] theorem faultReentry_rxq : (s.faultReentry).rxq = s.rxq := rfl
@[simp] theorem faultReentry_txq : (s.faultReentry).txq = s.txq := rfl
@[simp] theorem faultReentry_resultPort : (s.faultReentry).resultPort = s.resultPort := rfl
@[simp] theorem faultReentry_events : (s.faultReentry).events = s.events := rfl
end

section
variable (s : State) (v : Word)
@[simp] theorem respond_phase : (s.respond v).phase = s.phase := rfl
@[simp] theorem respond_decLen : (s.respond v).decLen = s.decLen := rfl
@[simp] theorem respond_decCode : (s.respond v).decCode = s.decCode := rfl
@[simp] theorem respond_decDir : (s.respond v).decDir = s.decDir := rfl
@[simp] theorem respond_decCnt : (s.respond v).decCnt = s.decCnt := rfl
@[simp] theorem respond_decCsum : (s.respond v).decCsum = s.decCsum := rfl
@[simp] theorem respond_decBuf : (s.respond v).decBuf = s.decBuf := rfl
@[simp] theorem respond_encFields : (s.respond v).encFields = s.encFields := rfl
@[simp] theorem respond_rxFields : (s.respond v).rxFields = s.rxFields := rfl
@[simp] theorem respond_rxCode : (s.respond v).rxCode = s.rxCode := rfl
@[simp] theorem respond_rxLen : (s.respond v).rxLen = s.rxLen := rfl
@[simp] theorem respond_rxDir : (s.respond v).rxDir = s.rxDir := rfl
@[simp] theorem respond_rxTail : (s.respond v).rxTail = s.rxTail := rfl
@[simp] theorem respond_err : (s.respond v).err = s.err := rfl
@[simp] theorem respond_unknown : (s.respond v).unknown = s.unknown := rfl
@[simp] theorem respond_short : (s.respond v).short = s.short := rfl
@[simp] theorem respond_odd : (s.respond v).odd = s.odd := rfl
@[simp] theorem respond_fIllegal : (s.respond v).fIllegal = s.fIllegal := rfl
@[simp] theorem respond_fReentry : (s.respond v).fReentry = s.fReentry := rfl
@[simp] theorem respond_cfgAccept : (s.respond v).cfgAccept = s.cfgAccept := rfl
@[simp] theorem respond_cfgEncdir : (s.respond v).cfgEncdir = s.cfgEncdir := rfl
@[simp] theorem respond_rxq : (s.respond v).rxq = s.rxq := rfl
@[simp] theorem respond_txq : (s.respond v).txq = s.txq := rfl
@[simp] theorem respond_resultPort : (s.respond v).resultPort = some v := rfl
@[simp] theorem respond_events : (s.respond v).events = s.events := rfl
end

section
variable (s : State)
@[simp] theorem takeResult_phase : (s.takeResult).phase = s.phase := rfl
@[simp] theorem takeResult_decLen : (s.takeResult).decLen = s.decLen := rfl
@[simp] theorem takeResult_decCode : (s.takeResult).decCode = s.decCode := rfl
@[simp] theorem takeResult_decDir : (s.takeResult).decDir = s.decDir := rfl
@[simp] theorem takeResult_decCnt : (s.takeResult).decCnt = s.decCnt := rfl
@[simp] theorem takeResult_decCsum : (s.takeResult).decCsum = s.decCsum := rfl
@[simp] theorem takeResult_decBuf : (s.takeResult).decBuf = s.decBuf := rfl
@[simp] theorem takeResult_encFields : (s.takeResult).encFields = s.encFields := rfl
@[simp] theorem takeResult_rxFields : (s.takeResult).rxFields = s.rxFields := rfl
@[simp] theorem takeResult_rxCode : (s.takeResult).rxCode = s.rxCode := rfl
@[simp] theorem takeResult_rxLen : (s.takeResult).rxLen = s.rxLen := rfl
@[simp] theorem takeResult_rxDir : (s.takeResult).rxDir = s.rxDir := rfl
@[simp] theorem takeResult_rxTail : (s.takeResult).rxTail = s.rxTail := rfl
@[simp] theorem takeResult_err : (s.takeResult).err = s.err := rfl
@[simp] theorem takeResult_unknown : (s.takeResult).unknown = s.unknown := rfl
@[simp] theorem takeResult_short : (s.takeResult).short = s.short := rfl
@[simp] theorem takeResult_odd : (s.takeResult).odd = s.odd := rfl
@[simp] theorem takeResult_fIllegal : (s.takeResult).fIllegal = s.fIllegal := rfl
@[simp] theorem takeResult_fReentry : (s.takeResult).fReentry = s.fReentry := rfl
@[simp] theorem takeResult_cfgAccept : (s.takeResult).cfgAccept = s.cfgAccept := rfl
@[simp] theorem takeResult_cfgEncdir : (s.takeResult).cfgEncdir = s.cfgEncdir := rfl
@[simp] theorem takeResult_rxq : (s.takeResult).rxq = s.rxq := rfl
@[simp] theorem takeResult_txq : (s.takeResult).txq = s.txq := rfl
@[simp] theorem takeResult_resultPort : (s.takeResult).resultPort = none := rfl
@[simp] theorem takeResult_events : (s.takeResult).events = s.events := rfl
end

section
variable (s : State) (bytes : List Byte)
@[simp] theorem txPush_phase : (s.txPush bytes).phase = s.phase := rfl
@[simp] theorem txPush_decLen : (s.txPush bytes).decLen = s.decLen := rfl
@[simp] theorem txPush_decCode : (s.txPush bytes).decCode = s.decCode := rfl
@[simp] theorem txPush_decDir : (s.txPush bytes).decDir = s.decDir := rfl
@[simp] theorem txPush_decCnt : (s.txPush bytes).decCnt = s.decCnt := rfl
@[simp] theorem txPush_decCsum : (s.txPush bytes).decCsum = s.decCsum := rfl
@[simp] theorem txPush_decBuf : (s.txPush bytes).decBuf = s.decBuf := rfl
@[simp] theorem txPush_encFields : (s.txPush bytes).encFields = s.encFields := rfl
@[simp] theorem txPush_rxFields : (s.txPush bytes).rxFields = s.rxFields := rfl
@[simp] theorem txPush_rxCode : (s.txPush bytes).rxCode = s.rxCode := rfl
@[simp] theorem txPush_rxLen : (s.txPush bytes).rxLen = s.rxLen := rfl
@[simp] theorem txPush_rxDir : (s.txPush bytes).rxDir = s.rxDir := rfl
@[simp] theorem txPush_rxTail : (s.txPush bytes).rxTail = s.rxTail := rfl
@[simp] theorem txPush_err : (s.txPush bytes).err = s.err := rfl
@[simp] theorem txPush_unknown : (s.txPush bytes).unknown = s.unknown := rfl
@[simp] theorem txPush_short : (s.txPush bytes).short = s.short := rfl
@[simp] theorem txPush_odd : (s.txPush bytes).odd = s.odd := rfl
@[simp] theorem txPush_fIllegal : (s.txPush bytes).fIllegal = s.fIllegal := rfl
@[simp] theorem txPush_fReentry : (s.txPush bytes).fReentry = s.fReentry := rfl
@[simp] theorem txPush_cfgAccept : (s.txPush bytes).cfgAccept = s.cfgAccept := rfl
@[simp] theorem txPush_cfgEncdir : (s.txPush bytes).cfgEncdir = s.cfgEncdir := rfl
@[simp] theorem txPush_rxq : (s.txPush bytes).rxq = s.rxq := rfl
@[simp] theorem txPush_txq : (s.txPush bytes).txq = s.txq ++ bytes := rfl
@[simp] theorem txPush_resultPort : (s.txPush bytes).resultPort = s.resultPort := rfl
@[simp] theorem txPush_events : (s.txPush bytes).events = s.events := rfl
end

section
variable (s : State) (tx rx : Bool)
@[simp] theorem flushQueues_phase : (s.flushQueues tx rx).phase = s.phase := rfl
@[simp] theorem flushQueues_decLen : (s.flushQueues tx rx).decLen = s.decLen := rfl
@[simp] theorem flushQueues_decCode : (s.flushQueues tx rx).decCode = s.decCode := rfl
@[simp] theorem flushQueues_decDir : (s.flushQueues tx rx).decDir = s.decDir := rfl
@[simp] theorem flushQueues_decCnt : (s.flushQueues tx rx).decCnt = s.decCnt := rfl
@[simp] theorem flushQueues_decCsum : (s.flushQueues tx rx).decCsum = s.decCsum := rfl
@[simp] theorem flushQueues_decBuf : (s.flushQueues tx rx).decBuf = s.decBuf := rfl
@[simp] theorem flushQueues_encFields : (s.flushQueues tx rx).encFields = s.encFields := rfl
@[simp] theorem flushQueues_rxFields : (s.flushQueues tx rx).rxFields = s.rxFields := rfl
@[simp] theorem flushQueues_rxCode : (s.flushQueues tx rx).rxCode = s.rxCode := rfl
@[simp] theorem flushQueues_rxLen : (s.flushQueues tx rx).rxLen = s.rxLen := rfl
@[simp] theorem flushQueues_rxDir : (s.flushQueues tx rx).rxDir = s.rxDir := rfl
@[simp] theorem flushQueues_rxTail : (s.flushQueues tx rx).rxTail = s.rxTail := rfl
@[simp] theorem flushQueues_err : (s.flushQueues tx rx).err = s.err := rfl
@[simp] theorem flushQueues_unknown : (s.flushQueues tx rx).unknown = s.unknown := rfl
@[simp] theorem flushQueues_short : (s.flushQueues tx rx).short = s.short := rfl
@[simp] theorem flushQueues_odd : (s.flushQueues tx rx).odd = s.odd := rfl
@[simp] theorem flushQueues_fIllegal : (s.flushQueues tx rx).fIllegal = s.fIllegal := rfl
@[simp] theorem flushQueues_fReentry : (s.flushQueues tx rx).fReentry = s.fReentry := rfl
@[simp] theorem flushQueues_cfgAccept : (s.flushQueues tx rx).cfgAccept = s.cfgAccept := rfl
@[simp] theorem flushQueues_cfgEncdir : (s.flushQueues tx rx).cfgEncdir = s.cfgEncdir := rfl
@[simp] theorem flushQueues_rxq : (s.flushQueues tx rx).rxq = (if rx then [] else s.rxq) := rfl
@[simp] theorem flushQueues_txq : (s.flushQueues tx rx).txq = (if tx then [] else s.txq) := rfl
@[simp] theorem flushQueues_resultPort : (s.flushQueues tx rx).resultPort = s.resultPort := rfl
@[simp] theorem flushQueues_events : (s.flushQueues tx rx).events = s.events := rfl
end

section
variable (s : State) (i : Nat) (h : i < 127) (v : Half)
@[simp] theorem setEncField_phase : (s.setEncField i h v).phase = s.phase := rfl
@[simp] theorem setEncField_decLen : (s.setEncField i h v).decLen = s.decLen := rfl
@[simp] theorem setEncField_decCode : (s.setEncField i h v).decCode = s.decCode := rfl
@[simp] theorem setEncField_decDir : (s.setEncField i h v).decDir = s.decDir := rfl
@[simp] theorem setEncField_decCnt : (s.setEncField i h v).decCnt = s.decCnt := rfl
@[simp] theorem setEncField_decCsum : (s.setEncField i h v).decCsum = s.decCsum := rfl
@[simp] theorem setEncField_decBuf : (s.setEncField i h v).decBuf = s.decBuf := rfl
@[simp] theorem setEncField_encFields : (s.setEncField i h v).encFields = s.encFields.set i v h := rfl
@[simp] theorem setEncField_rxFields : (s.setEncField i h v).rxFields = s.rxFields := rfl
@[simp] theorem setEncField_rxCode : (s.setEncField i h v).rxCode = s.rxCode := rfl
@[simp] theorem setEncField_rxLen : (s.setEncField i h v).rxLen = s.rxLen := rfl
@[simp] theorem setEncField_rxDir : (s.setEncField i h v).rxDir = s.rxDir := rfl
@[simp] theorem setEncField_rxTail : (s.setEncField i h v).rxTail = s.rxTail := rfl
@[simp] theorem setEncField_err : (s.setEncField i h v).err = s.err := rfl
@[simp] theorem setEncField_unknown : (s.setEncField i h v).unknown = s.unknown := rfl
@[simp] theorem setEncField_short : (s.setEncField i h v).short = s.short := rfl
@[simp] theorem setEncField_odd : (s.setEncField i h v).odd = s.odd := rfl
@[simp] theorem setEncField_fIllegal : (s.setEncField i h v).fIllegal = s.fIllegal := rfl
@[simp] theorem setEncField_fReentry : (s.setEncField i h v).fReentry = s.fReentry := rfl
@[simp] theorem setEncField_cfgAccept : (s.setEncField i h v).cfgAccept = s.cfgAccept := rfl
@[simp] theorem setEncField_cfgEncdir : (s.setEncField i h v).cfgEncdir = s.cfgEncdir := rfl
@[simp] theorem setEncField_rxq : (s.setEncField i h v).rxq = s.rxq := rfl
@[simp] theorem setEncField_txq : (s.setEncField i h v).txq = s.txq := rfl
@[simp] theorem setEncField_resultPort : (s.setEncField i h v).resultPort = s.resultPort := rfl
@[simp] theorem setEncField_events : (s.setEncField i h v).events = s.events := rfl
end

section
variable (s : State) (a : AcceptMode) (d : Direction)
@[simp] theorem setConfig_phase : (s.setConfig a d).phase = s.phase := rfl
@[simp] theorem setConfig_decLen : (s.setConfig a d).decLen = s.decLen := rfl
@[simp] theorem setConfig_decCode : (s.setConfig a d).decCode = s.decCode := rfl
@[simp] theorem setConfig_decDir : (s.setConfig a d).decDir = s.decDir := rfl
@[simp] theorem setConfig_decCnt : (s.setConfig a d).decCnt = s.decCnt := rfl
@[simp] theorem setConfig_decCsum : (s.setConfig a d).decCsum = s.decCsum := rfl
@[simp] theorem setConfig_decBuf : (s.setConfig a d).decBuf = s.decBuf := rfl
@[simp] theorem setConfig_encFields : (s.setConfig a d).encFields = s.encFields := rfl
@[simp] theorem setConfig_rxFields : (s.setConfig a d).rxFields = s.rxFields := rfl
@[simp] theorem setConfig_rxCode : (s.setConfig a d).rxCode = s.rxCode := rfl
@[simp] theorem setConfig_rxLen : (s.setConfig a d).rxLen = s.rxLen := rfl
@[simp] theorem setConfig_rxDir : (s.setConfig a d).rxDir = s.rxDir := rfl
@[simp] theorem setConfig_rxTail : (s.setConfig a d).rxTail = s.rxTail := rfl
@[simp] theorem setConfig_err : (s.setConfig a d).err = s.err := rfl
@[simp] theorem setConfig_unknown : (s.setConfig a d).unknown = s.unknown := rfl
@[simp] theorem setConfig_short : (s.setConfig a d).short = s.short := rfl
@[simp] theorem setConfig_odd : (s.setConfig a d).odd = s.odd := rfl
@[simp] theorem setConfig_fIllegal : (s.setConfig a d).fIllegal = s.fIllegal := rfl
@[simp] theorem setConfig_fReentry : (s.setConfig a d).fReentry = s.fReentry := rfl
@[simp] theorem setConfig_cfgAccept : (s.setConfig a d).cfgAccept = a := rfl
@[simp] theorem setConfig_cfgEncdir : (s.setConfig a d).cfgEncdir = d := rfl
@[simp] theorem setConfig_rxq : (s.setConfig a d).rxq = s.rxq := rfl
@[simp] theorem setConfig_txq : (s.setConfig a d).txq = s.txq := rfl
@[simp] theorem setConfig_resultPort : (s.setConfig a d).resultPort = s.resultPort := rfl
@[simp] theorem setConfig_events : (s.setConfig a d).events = s.events := rfl
end

section
variable (s : State) (dir code : Byte) (payload : List Byte)
@[simp] theorem commit_phase : (s.commit dir code payload).phase = s.phase := rfl
@[simp] theorem commit_decLen : (s.commit dir code payload).decLen = s.decLen := rfl
@[simp] theorem commit_decCode : (s.commit dir code payload).decCode = s.decCode := rfl
@[simp] theorem commit_decDir : (s.commit dir code payload).decDir = s.decDir := rfl
@[simp] theorem commit_decCnt : (s.commit dir code payload).decCnt = s.decCnt := rfl
@[simp] theorem commit_decCsum : (s.commit dir code payload).decCsum = s.decCsum := rfl
@[simp] theorem commit_decBuf : (s.commit dir code payload).decBuf = s.decBuf := rfl
@[simp] theorem commit_encFields : (s.commit dir code payload).encFields = s.encFields := rfl
@[simp] theorem commit_rxFields : (s.commit dir code payload).rxFields = committedFields payload := rfl
@[simp] theorem commit_rxCode : (s.commit dir code payload).rxCode = code := rfl
@[simp] theorem commit_rxLen : (s.commit dir code payload).rxLen = BitVec.ofNat 8 payload.length := rfl
@[simp] theorem commit_rxDir : (s.commit dir code payload).rxDir = dir := rfl
@[simp] theorem commit_rxTail : (s.commit dir code payload).rxTail = committedTail payload := rfl
@[simp] theorem commit_err : (s.commit dir code payload).err = s.err := rfl
@[simp] theorem commit_unknown : (s.commit dir code payload).unknown = unknownFlag code := rfl
@[simp] theorem commit_short : (s.commit dir code payload).short = shortFlag code payload := rfl
@[simp] theorem commit_odd : (s.commit dir code payload).odd = oddFlag payload := rfl
@[simp] theorem commit_fIllegal : (s.commit dir code payload).fIllegal = s.fIllegal := rfl
@[simp] theorem commit_fReentry : (s.commit dir code payload).fReentry = s.fReentry := rfl
@[simp] theorem commit_cfgAccept : (s.commit dir code payload).cfgAccept = s.cfgAccept := rfl
@[simp] theorem commit_cfgEncdir : (s.commit dir code payload).cfgEncdir = s.cfgEncdir := rfl
@[simp] theorem commit_rxq : (s.commit dir code payload).rxq = s.rxq := rfl
@[simp] theorem commit_txq : (s.commit dir code payload).txq = s.txq := rfl
@[simp] theorem commit_resultPort : (s.commit dir code payload).resultPort = s.resultPort := rfl
@[simp] theorem commit_events : (s.commit dir code payload).events = s.events := rfl
end

section
variable (s : State) (dir code : Byte) (payload : List Byte)
@[simp] theorem acceptFrame_phase : (s.acceptFrame dir code payload).phase = .idle := rfl
@[simp] theorem acceptFrame_decLen : (s.acceptFrame dir code payload).decLen = s.decLen := rfl
@[simp] theorem acceptFrame_decCode : (s.acceptFrame dir code payload).decCode = s.decCode := rfl
@[simp] theorem acceptFrame_decDir : (s.acceptFrame dir code payload).decDir = s.decDir := rfl
@[simp] theorem acceptFrame_decCnt : (s.acceptFrame dir code payload).decCnt = s.decCnt := rfl
@[simp] theorem acceptFrame_decCsum : (s.acceptFrame dir code payload).decCsum = s.decCsum := rfl
@[simp] theorem acceptFrame_decBuf : (s.acceptFrame dir code payload).decBuf = s.decBuf := rfl
@[simp] theorem acceptFrame_encFields : (s.acceptFrame dir code payload).encFields = s.encFields := rfl
@[simp] theorem acceptFrame_rxFields : (s.acceptFrame dir code payload).rxFields = committedFields payload := rfl
@[simp] theorem acceptFrame_rxCode : (s.acceptFrame dir code payload).rxCode = code := rfl
@[simp] theorem acceptFrame_rxLen : (s.acceptFrame dir code payload).rxLen = BitVec.ofNat 8 payload.length := rfl
@[simp] theorem acceptFrame_rxDir : (s.acceptFrame dir code payload).rxDir = dir := rfl
@[simp] theorem acceptFrame_rxTail : (s.acceptFrame dir code payload).rxTail = committedTail payload := rfl
@[simp] theorem acceptFrame_err : (s.acceptFrame dir code payload).err = .ok := rfl
@[simp] theorem acceptFrame_unknown : (s.acceptFrame dir code payload).unknown = unknownFlag code := rfl
@[simp] theorem acceptFrame_short : (s.acceptFrame dir code payload).short = shortFlag code payload := rfl
@[simp] theorem acceptFrame_odd : (s.acceptFrame dir code payload).odd = oddFlag payload := rfl
@[simp] theorem acceptFrame_fIllegal : (s.acceptFrame dir code payload).fIllegal = s.fIllegal := rfl
@[simp] theorem acceptFrame_fReentry : (s.acceptFrame dir code payload).fReentry = s.fReentry := rfl
@[simp] theorem acceptFrame_cfgAccept : (s.acceptFrame dir code payload).cfgAccept = s.cfgAccept := rfl
@[simp] theorem acceptFrame_cfgEncdir : (s.acceptFrame dir code payload).cfgEncdir = s.cfgEncdir := rfl
@[simp] theorem acceptFrame_rxq : (s.acceptFrame dir code payload).rxq = s.rxq := rfl
@[simp] theorem acceptFrame_txq : (s.acceptFrame dir code payload).txq = s.txq := rfl
@[simp] theorem acceptFrame_resultPort : (s.acceptFrame dir code payload).resultPort = s.resultPort := rfl
@[simp] theorem acceptFrame_events : (s.acceptFrame dir code payload).events = s.events := rfl
end

section
variable (s : State)
@[simp] theorem transportSend_phase : (s.transportSend).phase = s.phase := rfl
@[simp] theorem transportSend_decLen : (s.transportSend).decLen = s.decLen := rfl
@[simp] theorem transportSend_decCode : (s.transportSend).decCode = s.decCode := rfl
@[simp] theorem transportSend_decDir : (s.transportSend).decDir = s.decDir := rfl
@[simp] theorem transportSend_decCnt : (s.transportSend).decCnt = s.decCnt := rfl
@[simp] theorem transportSend_decCsum : (s.transportSend).decCsum = s.decCsum := rfl
@[simp] theorem transportSend_decBuf : (s.transportSend).decBuf = s.decBuf := rfl
@[simp] theorem transportSend_encFields : (s.transportSend).encFields = s.encFields := rfl
@[simp] theorem transportSend_rxFields : (s.transportSend).rxFields = s.rxFields := rfl
@[simp] theorem transportSend_rxCode : (s.transportSend).rxCode = s.rxCode := rfl
@[simp] theorem transportSend_rxLen : (s.transportSend).rxLen = s.rxLen := rfl
@[simp] theorem transportSend_rxDir : (s.transportSend).rxDir = s.rxDir := rfl
@[simp] theorem transportSend_rxTail : (s.transportSend).rxTail = s.rxTail := rfl
@[simp] theorem transportSend_err : (s.transportSend).err = s.err := rfl
@[simp] theorem transportSend_unknown : (s.transportSend).unknown = s.unknown := rfl
@[simp] theorem transportSend_short : (s.transportSend).short = s.short := rfl
@[simp] theorem transportSend_odd : (s.transportSend).odd = s.odd := rfl
@[simp] theorem transportSend_fIllegal : (s.transportSend).fIllegal = s.fIllegal := rfl
@[simp] theorem transportSend_fReentry : (s.transportSend).fReentry = s.fReentry := rfl
@[simp] theorem transportSend_cfgAccept : (s.transportSend).cfgAccept = s.cfgAccept := rfl
@[simp] theorem transportSend_cfgEncdir : (s.transportSend).cfgEncdir = s.cfgEncdir := rfl
@[simp] theorem transportSend_rxq : (s.transportSend).rxq = s.rxq := rfl
@[simp] theorem transportSend_txq : (s.transportSend).txq = s.txq.tail := rfl
@[simp] theorem transportSend_resultPort : (s.transportSend).resultPort = s.resultPort := rfl
@[simp] theorem transportSend_events : (s.transportSend).events = s.events := rfl
end

section
variable (s : State) (x : RxItem)
@[simp] theorem transportReceive_phase : (s.transportReceive x).phase = s.phase := rfl
@[simp] theorem transportReceive_decLen : (s.transportReceive x).decLen = s.decLen := rfl
@[simp] theorem transportReceive_decCode : (s.transportReceive x).decCode = s.decCode := rfl
@[simp] theorem transportReceive_decDir : (s.transportReceive x).decDir = s.decDir := rfl
@[simp] theorem transportReceive_decCnt : (s.transportReceive x).decCnt = s.decCnt := rfl
@[simp] theorem transportReceive_decCsum : (s.transportReceive x).decCsum = s.decCsum := rfl
@[simp] theorem transportReceive_decBuf : (s.transportReceive x).decBuf = s.decBuf := rfl
@[simp] theorem transportReceive_encFields : (s.transportReceive x).encFields = s.encFields := rfl
@[simp] theorem transportReceive_rxFields : (s.transportReceive x).rxFields = s.rxFields := rfl
@[simp] theorem transportReceive_rxCode : (s.transportReceive x).rxCode = s.rxCode := rfl
@[simp] theorem transportReceive_rxLen : (s.transportReceive x).rxLen = s.rxLen := rfl
@[simp] theorem transportReceive_rxDir : (s.transportReceive x).rxDir = s.rxDir := rfl
@[simp] theorem transportReceive_rxTail : (s.transportReceive x).rxTail = s.rxTail := rfl
@[simp] theorem transportReceive_err : (s.transportReceive x).err = s.err := rfl
@[simp] theorem transportReceive_unknown : (s.transportReceive x).unknown = s.unknown := rfl
@[simp] theorem transportReceive_short : (s.transportReceive x).short = s.short := rfl
@[simp] theorem transportReceive_odd : (s.transportReceive x).odd = s.odd := rfl
@[simp] theorem transportReceive_fIllegal : (s.transportReceive x).fIllegal = s.fIllegal := rfl
@[simp] theorem transportReceive_fReentry : (s.transportReceive x).fReentry = s.fReentry := rfl
@[simp] theorem transportReceive_cfgAccept : (s.transportReceive x).cfgAccept = s.cfgAccept := rfl
@[simp] theorem transportReceive_cfgEncdir : (s.transportReceive x).cfgEncdir = s.cfgEncdir := rfl
@[simp] theorem transportReceive_rxq : (s.transportReceive x).rxq = s.rxq ++ [x] := rfl
@[simp] theorem transportReceive_txq : (s.transportReceive x).txq = s.txq := rfl
@[simp] theorem transportReceive_resultPort : (s.transportReceive x).resultPort = s.resultPort := rfl
@[simp] theorem transportReceive_events : (s.transportReceive x).events = s.events := rfl
end

section
variable (s : State)
@[simp] theorem resetState_phase : (s.resetState).phase = State.reset.phase := rfl
@[simp] theorem resetState_decLen : (s.resetState).decLen = State.reset.decLen := rfl
@[simp] theorem resetState_decCode : (s.resetState).decCode = State.reset.decCode := rfl
@[simp] theorem resetState_decDir : (s.resetState).decDir = State.reset.decDir := rfl
@[simp] theorem resetState_decCnt : (s.resetState).decCnt = State.reset.decCnt := rfl
@[simp] theorem resetState_decCsum : (s.resetState).decCsum = State.reset.decCsum := rfl
@[simp] theorem resetState_decBuf : (s.resetState).decBuf = State.reset.decBuf := rfl
@[simp] theorem resetState_encFields : (s.resetState).encFields = State.reset.encFields := rfl
@[simp] theorem resetState_rxFields : (s.resetState).rxFields = State.reset.rxFields := rfl
@[simp] theorem resetState_rxCode : (s.resetState).rxCode = State.reset.rxCode := rfl
@[simp] theorem resetState_rxLen : (s.resetState).rxLen = State.reset.rxLen := rfl
@[simp] theorem resetState_rxDir : (s.resetState).rxDir = State.reset.rxDir := rfl
@[simp] theorem resetState_rxTail : (s.resetState).rxTail = State.reset.rxTail := rfl
@[simp] theorem resetState_err : (s.resetState).err = State.reset.err := rfl
@[simp] theorem resetState_unknown : (s.resetState).unknown = State.reset.unknown := rfl
@[simp] theorem resetState_short : (s.resetState).short = State.reset.short := rfl
@[simp] theorem resetState_odd : (s.resetState).odd = State.reset.odd := rfl
@[simp] theorem resetState_fIllegal : (s.resetState).fIllegal = State.reset.fIllegal := rfl
@[simp] theorem resetState_fReentry : (s.resetState).fReentry = State.reset.fReentry := rfl
@[simp] theorem resetState_cfgAccept : (s.resetState).cfgAccept = State.reset.cfgAccept := rfl
@[simp] theorem resetState_cfgEncdir : (s.resetState).cfgEncdir = State.reset.cfgEncdir := rfl
@[simp] theorem resetState_rxq : (s.resetState).rxq = State.reset.rxq := rfl
@[simp] theorem resetState_txq : (s.resetState).txq = State.reset.txq := rfl
@[simp] theorem resetState_resultPort : (s.resetState).resultPort = State.reset.resultPort := rfl
@[simp] theorem resetState_events : (s.resetState).events = s.events := rfl
end

end Sys2Proof.Machine.State
end

