-- ==== Sys2Proof/Laws/Ops.lean ====
section
/-! SUPPORT. What each shared operation can do, said once. -/

namespace Sys2Proof.Machine

/-- BUSY is PHASE other than IDLE (R32). -/
@[simp] theorem State.busy_eq_true (s : State) : s.busy = true ↔ s.phase ≠ .idle := by simp [State.busy]

@[simp] theorem State.busy_eq_false (s : State) : s.busy = false ↔ s.phase = .idle := by simp [State.busy]

/-- On an idle block a command that needs one is run. -/
theorem State.whenIdle_idle {s : State} (h : s.phase = .idle) (r : Host.Outcome State Fault Refusal) :
    s.whenIdle r = r := by simp [State.whenIdle, h]

/-- While BUSY it is refused with F_REENTRY (R305). -/
theorem State.whenIdle_busy {s : State} (h : s.phase ≠ .idle) (r : Host.Outcome State Fault Refusal) :
    s.whenIdle r = .next s.faultReentry := by simp [State.whenIdle, h]

/-- Entry `i` of what a commit leaves in RX_FIELDS (R171). -/
theorem committedFields_getElem (payload : List Byte) (i : Nat) (h : i < 127) :
    (committedFields payload)[i] =
      if i < payload.length / 2 then payload.getD (2 * i + 1) 0 ++ payload.getD (2 * i) 0 else 0 := by
  unfold committedFields
  simp [fieldCount, payloadField, payloadByte]

/-- Completing a frame in phase CHK, register by register (R169, R171). -/
theorem State.acceptFrame_eq (s : State) (dir code : Byte) (payload : List Byte) :
    s.acceptFrame dir code payload = { s with
      rxFields := committedFields payload
      rxCode := code
      rxLen := BitVec.ofNat 8 payload.length
      rxDir := dir
      rxTail := committedTail payload
      odd := oddFlag payload
      unknown := unknownFlag code
      short := shortFlag code payload
      err := .ok
      phase := .idle } := rfl

/-- The received payload has DEC_LEN bytes. -/
@[simp] theorem State.decPayload_length (s : State) : s.decPayload.length = s.decLen.toNat := by
  simp [State.decPayload]

/-- Byte `i` of the received payload is offset `i` of DEC_BUF. -/
theorem State.decPayload_getD (s : State) (i : Nat) (h : i < s.decLen.toNat) :
    s.decPayload.getD i 0 = s.decBuf.read i := by
  simp [State.decPayload, Memory.firstBytes, List.getD, h]

end Sys2Proof.Machine
end

