-- ==== Sys2Proof/Laws/Frames.lean ====
section
/-! SUPPORT. Frame rows and their codes: what `frameInstr` picks, what its instruction executes, and what phase CHK therefore
does, catalog code or not. -/

namespace Sys2Proof

@[simp] theorem directionOfByte_directionByte (d : Direction) : directionOfByte (directionByte d) = some d := by
  cases d <;> decide

/-- A byte that names a direction is that direction's byte. -/
theorem directionByte_of_directionOfByte {b : Byte} {d : Direction} (h : directionOfByte b = some d) :
    directionByte d = b := by
  unfold directionOfByte at h
  split at h
  · cases h; simp_all [directionByte]
  · split at h
    · cases h; simp_all [directionByte]
    · cases h

/-- The bytes of a wire frame, seen from its head. -/
theorem wireFrame_eq (dir code : Byte) (payload : List Byte) :
    wireFrame dir code payload = 0x24 :: 0x4D :: dir :: BitVec.ofNat 8 payload.length :: code ::
      (payload ++ [checksum (BitVec.ofNat 8 payload.length) code payload]) := rfl

/-- A wire frame of at most 255 payload bytes parses to its parts, with nothing left over (R100, R103). -/
theorem parseFrame_wireFrame (d : Direction) (code : Byte) (payload rest : List Byte) (h : payload.length ≤ 255) :
    parseFrame (wireFrame (directionByte d) code payload ++ rest) = .ok (⟨d, code, payload⟩, rest) := by
  have hl : (BitVec.ofNat 8 payload.length).toNat = payload.length := by
    rw [BitVec.toNat_ofNat]; exact Nat.mod_eq_of_lt (by omega)
  simp only [wireFrame_eq, List.cons_append, List.append_assoc, parseFrame, directionOfByte_directionByte, hl,
    List.drop_left, List.take_left]
  simp

end Sys2Proof

namespace Sys2Proof.Machine

/-- Whatever row stands for a code, executing it completes that frame (R169, R171, R210 to R251). -/
theorem exec_frameInstr {code : Byte} {dir : Direction} {payload : List Byte} {i : Instr}
    (h : frameInstr code dir payload = some i) (s : State) :
    exec i s = .next (s.acceptFrame (directionByte dir) code payload) := by
  have hc : code = BitVec.ofNat 8 code.toNat := by simp
  unfold frameInstr at h
  split at h <;> cases h <;> rename_i e <;> rw [e] at hc <;> rw [hc] <;> rfl

/-- The members of K as ranges of the code (R200). -/
theorem inCatalog_eq_true (code : Byte) : inCatalog code = true ↔
    (code.toNat = 68 ∨ code.toNat = 88 ∨ code.toNat = 89 ∨ code.toNat = 250 ∨ code.toNat = 254) ∨
      (100 ≤ code.toNat ∧ code.toNat ≤ 121) ∨ (200 ≤ code.toNat ∧ code.toNat ≤ 214) := by
  simp only [inCatalog, Bool.or_eq_true, Bool.and_eq_true, decide_eq_true_eq, List.contains_eq_mem, List.mem_cons,
    List.not_mem_nil, or_false, or_assoc]

/-- A code has a row exactly when it is in the catalog. -/
theorem frameInstr_eq_none (code : Byte) (dir : Direction) (payload : List Byte) :
    frameInstr code dir payload = none ↔ inCatalog code = false := by
  constructor
  · intro h
    unfold frameInstr at h
    split at h <;> first | (exfalso; exact Option.some_ne_none _ h) | (rw [Bool.eq_false_iff, Ne, inCatalog_eq_true]; simp only [imp_false] at *; omega)
  · intro h
    unfold frameInstr
    split <;> first | rfl | (rename_i e; simp [inCatalog, e] at h)

/-- Phase CHK in one equation, whether or not the code has a row (R169, R201). -/
theorem chkByte_eq (b : Byte) (s : State) :
    chkByte b s =
      if b = s.decCsum then .next (s.acceptFrame s.decDir s.decCode s.decPayload)
      else .next ((s.setErr .checksumMismatch).setPhase .idle) := by
  unfold chkByte
  split
  · cases h : s.receivedInstr with
    | none => rfl
    | some i =>
      unfold State.receivedInstr at h
      split at h
      · rename_i d hd
        rw [← directionByte_of_directionOfByte hd]
        exact exec_frameInstr h s
      · cases h
  · rfl

end Sys2Proof.Machine
end

