-- ==== Sys2Proof/Laws/PerInstr.lean ====
section
/-! SUPPORT. One lemma per instruction: its encoding has the fixed bits of its row of spec/opcode_table.json. -/

namespace Sys2Proof.Laws.TableRow

/-- A row's `match` and `mask` columns. A command row's bits are the word; a frame row's are frame byte 4. -/
def row : Instr → Nat × Nat
  | .nop => (0x00000000, 0xFFFFFFFF)
  | .encode _ _ => (0x00000001, 0xFF0000FF)
  | .decode => (0x00000002, 0xFFFFFFFF)
  | .flush _ _ => (0x00000003, 0xFFFFFCFF)
  | .abort => (0x00000004, 0xFFFFFFFF)
  | .reset => (0x00000005, 0xFFFFFFFF)
  | .setcfg _ _ => (0x00000006, 0xFFFFF8FF)
  | .wfield _ _ => (0x00000007, 0x000080FF)
  | .rfield _ => (0x00000008, 0xFFFF80FF)
  | .rstatus => (0x00000009, 0xFFFFFFFF)
  | .rinfo => (0x0000000A, 0xFFFFFFFF)
  | .mspReboot _ _ => (0x44, 0xFF)
  | .mspVtxConfig _ _ => (0x58, 0xFF)
  | .mspVtxConfig89 _ _ => (0x59, 0xFF)
  | .mspIdent _ _ => (0x64, 0xFF)
  | .mspStatus _ _ => (0x65, 0xFF)
  | .mspRawImu _ _ => (0x66, 0xFF)
  | .mspServo _ _ => (0x67, 0xFF)
  | .mspMotor _ _ => (0x68, 0xFF)
  | .mspRc _ _ => (0x69, 0xFF)
  | .mspRawGps _ _ => (0x6A, 0xFF)
  | .mspCompGps _ _ => (0x6B, 0xFF)
  | .mspAttitude _ _ => (0x6C, 0xFF)
  | .mspAltitude _ _ => (0x6D, 0xFF)
  | .mspAnalog _ _ => (0x6E, 0xFF)
  | .mspRcTuning _ _ => (0x6F, 0xFF)
  | .mspPid _ _ => (0x70, 0xFF)
  | .mspBox _ _ => (0x71, 0xFF)
  | .mspMisc _ _ => (0x72, 0xFF)
  | .mspCode115 _ _ => (0x73, 0xFF)
  | .mspBoxnames _ _ => (0x74, 0xFF)
  | .mspPidnames _ _ => (0x75, 0xFF)
  | .mspWp _ _ => (0x76, 0xFF)
  | .mspBoxids _ _ => (0x77, 0xFF)
  | .mspCode120 _ _ => (0x78, 0xFF)
  | .mspCode121 _ _ => (0x79, 0xFF)
  | .mspSetRawRc _ _ => (0xC8, 0xFF)
  | .mspCode201 _ _ => (0xC9, 0xFF)
  | .mspSetPid _ _ => (0xCA, 0xFF)
  | .mspSetBox _ _ => (0xCB, 0xFF)
  | .mspSetRcTuning _ _ => (0xCC, 0xFF)
  | .mspAccCalibration _ _ => (0xCD, 0xFF)
  | .mspMagCalibration _ _ => (0xCE, 0xFF)
  | .mspCode207 _ _ => (0xCF, 0xFF)
  | .mspResetConf _ _ => (0xD0, 0xFF)
  | .mspSetWp _ _ => (0xD1, 0xFF)
  | .mspSwitchRcSerial _ _ => (0xD2, 0xFF)
  | .mspCode211 _ _ => (0xD3, 0xFF)
  | .mspCode212 _ _ => (0xD4, 0xFF)
  | .mspCode213 _ _ => (0xD5, 0xFF)
  | .mspSetMotor _ _ => (0xD6, 0xFF)
  | .mspEepromWrite _ _ => (0xFA, 0xFF)
  | .mspDebug _ _ => (0xFE, 0xFF)

/-- The fixed bits of the row stand in the encoding, whatever the operands. -/
def Statement (i : Instr) : Prop :=
  match Sys2Proof.encode i with
  | .command w => w &&& BitVec.ofNat 32 (row i).2 = BitVec.ofNat 32 (row i).1
  | .frame bytes => bytes[4]?.map (· &&& BitVec.ofNat 8 (row i).2) = some (BitVec.ofNat 8 (row i).1)

/-- A frame row: byte 4 is the code. -/
theorem frameRow {i : Instr} {dir code : Byte} {payload : List Byte}
    (he : Sys2Proof.encode i = .frame (wireFrame dir code payload)) (hr : row i = (code.toNat, 0xFF))
    (hc : code &&& BitVec.ofNat 8 0xFF = code) : Statement i := by
  simp only [Statement, he, hr]
  have h4 : (wireFrame dir code payload)[4]? = some code := rfl
  rw [h4, Option.map_some, hc, BitVec.ofNat_toNat, BitVec.setWidth_eq]

/-- A command row: the fixed bits of the word. -/
theorem commandRow {i : Instr} {w : Word} (he : Sys2Proof.encode i = .command w)
    (h : w &&& BitVec.ofNat 32 (row i).2 = BitVec.ofNat 32 (row i).1) : Statement i := by
  simp only [Statement, he]
  exact h

theorem nop : Statement .nop := commandRow rfl (by decide)

theorem encode (code n : Byte) : Statement (.encode code n) := commandRow rfl (by
  apply BitVec.eq_of_getLsbD_eq
  intro i hi
  simp only [row, wordCE, BitVec.getLsbD_and, BitVec.getLsbD_append]
  interval_cases i <;> simp)

theorem decode : Statement .decode := commandRow rfl (by decide)

theorem flush (tx rx : Bool) : Statement (.flush tx rx) := commandRow rfl (by
  revert tx rx; decide)

theorem abort : Statement .abort := commandRow rfl (by decide)

theorem reset : Statement .reset := commandRow rfl (by decide)

theorem setcfg (accept : BitVec 2) (encdir : Direction) : Statement (.setcfg accept encdir) := commandRow rfl (by
  cases encdir <;> revert accept <;> decide)

theorem wfield (idx : BitVec 7) (value : Half) : Statement (.wfield idx value) := commandRow rfl (by
  apply BitVec.eq_of_getLsbD_eq
  intro i hi
  simp only [row, wordCW, BitVec.getLsbD_and, BitVec.getLsbD_append]
  interval_cases i <;> simp)

theorem rfield (idx : BitVec 7) : Statement (.rfield idx) := commandRow rfl (by
  revert idx; decide)

theorem rstatus : Statement .rstatus := commandRow rfl (by decide)

theorem rinfo : Statement .rinfo := commandRow rfl (by decide)

theorem mspReboot (dir : Direction) (payload : List Byte) :
    Statement (.mspReboot dir payload) := frameRow rfl rfl (by decide)

theorem mspVtxConfig (dir : Direction) (payload : List Byte) :
    Statement (.mspVtxConfig dir payload) := frameRow rfl rfl (by decide)

theorem mspVtxConfig89 (dir : Direction) (payload : List Byte) :
    Statement (.mspVtxConfig89 dir payload) := frameRow rfl rfl (by decide)

theorem mspIdent (dir : Direction) (payload : List Byte) :
    Statement (.mspIdent dir payload) := frameRow rfl rfl (by decide)

theorem mspStatus (dir : Direction) (payload : List Byte) :
    Statement (.mspStatus dir payload) := frameRow rfl rfl (by decide)

theorem mspRawImu (dir : Direction) (payload : List Byte) :
    Statement (.mspRawImu dir payload) := frameRow rfl rfl (by decide)

theorem mspServo (dir : Direction) (payload : List Byte) :
    Statement (.mspServo dir payload) := frameRow rfl rfl (by decide)

theorem mspMotor (dir : Direction) (payload : List Byte) :
    Statement (.mspMotor dir payload) := frameRow rfl rfl (by decide)

theorem mspRc (dir : Direction) (payload : List Byte) :
    Statement (.mspRc dir payload) := frameRow rfl rfl (by decide)

theorem mspRawGps (dir : Direction) (payload : List Byte) :
    Statement (.mspRawGps dir payload) := frameRow rfl rfl (by decide)

theorem mspCompGps (dir : Direction) (payload : List Byte) :
    Statement (.mspCompGps dir payload) := frameRow rfl rfl (by decide)

theorem mspAttitude (dir : Direction) (payload : List Byte) :
    Statement (.mspAttitude dir payload) := frameRow rfl rfl (by decide)

theorem mspAltitude (dir : Direction) (payload : List Byte) :
    Statement (.mspAltitude dir payload) := frameRow rfl rfl (by decide)

theorem mspAnalog (dir : Direction) (payload : List Byte) :
    Statement (.mspAnalog dir payload) := frameRow rfl rfl (by decide)

theorem mspRcTuning (dir : Direction) (payload : List Byte) :
    Statement (.mspRcTuning dir payload) := frameRow rfl rfl (by decide)

theorem mspPid (dir : Direction) (payload : List Byte) :
    Statement (.mspPid dir payload) := frameRow rfl rfl (by decide)

theorem mspBox (dir : Direction) (payload : List Byte) :
    Statement (.mspBox dir payload) := frameRow rfl rfl (by decide)

theorem mspMisc (dir : Direction) (payload : List Byte) :
    Statement (.mspMisc dir payload) := frameRow rfl rfl (by decide)

theorem mspCode115 (dir : Direction) (payload : List Byte) :
    Statement (.mspCode115 dir payload) := frameRow rfl rfl (by decide)

theorem mspBoxnames (dir : Direction) (payload : List Byte) :
    Statement (.mspBoxnames dir payload) := frameRow rfl rfl (by decide)

theorem mspPidnames (dir : Direction) (payload : List Byte) :
    Statement (.mspPidnames dir payload) := frameRow rfl rfl (by decide)

theorem mspWp (dir : Direction) (payload : List Byte) :
    Statement (.mspWp dir payload) := frameRow rfl rfl (by decide)

theorem mspBoxids (dir : Direction) (payload : List Byte) :
    Statement (.mspBoxids dir payload) := frameRow rfl rfl (by decide)

theorem mspCode120 (dir : Direction) (payload : List Byte) :
    Statement (.mspCode120 dir payload) := frameRow rfl rfl (by decide)

theorem mspCode121 (dir : Direction) (payload : List Byte) :
    Statement (.mspCode121 dir payload) := frameRow rfl rfl (by decide)

theorem mspSetRawRc (dir : Direction) (payload : List Byte) :
    Statement (.mspSetRawRc dir payload) := frameRow rfl rfl (by decide)

theorem mspCode201 (dir : Direction) (payload : List Byte) :
    Statement (.mspCode201 dir payload) := frameRow rfl rfl (by decide)

theorem mspSetPid (dir : Direction) (payload : List Byte) :
    Statement (.mspSetPid dir payload) := frameRow rfl rfl (by decide)

theorem mspSetBox (dir : Direction) (payload : List Byte) :
    Statement (.mspSetBox dir payload) := frameRow rfl rfl (by decide)

theorem mspSetRcTuning (dir : Direction) (payload : List Byte) :
    Statement (.mspSetRcTuning dir payload) := frameRow rfl rfl (by decide)

theorem mspAccCalibration (dir : Direction) (payload : List Byte) :
    Statement (.mspAccCalibration dir payload) := frameRow rfl rfl (by decide)

theorem mspMagCalibration (dir : Direction) (payload : List Byte) :
    Statement (.mspMagCalibration dir payload) := frameRow rfl rfl (by decide)

theorem mspCode207 (dir : Direction) (payload : List Byte) :
    Statement (.mspCode207 dir payload) := frameRow rfl rfl (by decide)

theorem mspResetConf (dir : Direction) (payload : List Byte) :
    Statement (.mspResetConf dir payload) := frameRow rfl rfl (by decide)

theorem mspSetWp (dir : Direction) (payload : List Byte) :
    Statement (.mspSetWp dir payload) := frameRow rfl rfl (by decide)

theorem mspSwitchRcSerial (dir : Direction) (payload : List Byte) :
    Statement (.mspSwitchRcSerial dir payload) := frameRow rfl rfl (by decide)

theorem mspCode211 (dir : Direction) (payload : List Byte) :
    Statement (.mspCode211 dir payload) := frameRow rfl rfl (by decide)

theorem mspCode212 (dir : Direction) (payload : List Byte) :
    Statement (.mspCode212 dir payload) := frameRow rfl rfl (by decide)

theorem mspCode213 (dir : Direction) (payload : List Byte) :
    Statement (.mspCode213 dir payload) := frameRow rfl rfl (by decide)

theorem mspSetMotor (dir : Direction) (payload : List Byte) :
    Statement (.mspSetMotor dir payload) := frameRow rfl rfl (by decide)

theorem mspEepromWrite (dir : Direction) (payload : List Byte) :
    Statement (.mspEepromWrite dir payload) := frameRow rfl rfl (by decide)

theorem mspDebug (dir : Direction) (payload : List Byte) :
    Statement (.mspDebug dir payload) := frameRow rfl rfl (by decide)

end Sys2Proof.Laws.TableRow
end

