-- ==== Sys2Proof/Laws/Step.lean ====
section
/-! SUPPORT. What one instruction and one step can do, said once: two inversion lemmas that later proofs take cases on. -/

namespace Sys2Proof.Machine

/-- Everything an instruction can do to a state. -/
inductive ExecEffect (s : State) : Instr → State → Prop
  | nop : ExecEffect s .nop s
  | abortIdle (h : s.phase = .idle) : ExecEffect s .abort s
  | abort (h : s.phase ≠ .idle) : ExecEffect s .abort ((s.setErr .timeout).setPhase .idle)
  | reentry (i : Instr) (hn : needsIdle i = true) (h : s.phase ≠ .idle) : ExecEffect s i s.faultReentry
  | overflow (code n : Byte) (h : s.phase = .idle) (hn : 127 < n.toNat) :
      ExecEffect s (.encode code n) (s.setErr .lengthOverflow)
  | queue (code n : Byte) (h : s.phase = .idle) (hn : n.toNat ≤ 127) : ExecEffect s (.encode code n)
      ((s.txPush (frameOfFields (directionByte s.cfgEncdir) code (s.sendFields n.toNat))).setErr .ok)
  | arm (h : s.phase = .idle) : ExecEffect s .decode ((s.setErr .ok).setPhase .hunt)
  | flush (tx rx : Bool) (h : s.phase = .idle) : ExecEffect s (.flush tx rx) (s.flushQueues tx rx)
  | reset : ExecEffect s .reset s.resetState
  | badAccept (a : BitVec 2) (d : Direction) (h : acceptOfBits a = none) : ExecEffect s (.setcfg a d) s.faultIllegal
  | config (a : BitVec 2) (m : AcceptMode) (d : Direction) (h : s.phase = .idle) (ha : acceptOfBits a = some m) :
      ExecEffect s (.setcfg a d) (s.setConfig m d)
  | badWfield (idx : BitVec 7) (v : Half) (h : ¬ idx.toNat < 127) : ExecEffect s (.wfield idx v) s.faultIllegal
  | wfield (idx : BitVec 7) (v : Half) (h : idx.toNat < 127) :
      ExecEffect s (.wfield idx v) (s.setEncField idx.toNat h v)
  | badRfield (idx : BitVec 7) (h : ¬ idx.toNat < 127) : ExecEffect s (.rfield idx) s.faultIllegal
  | rfield (idx : BitVec 7) (h : idx.toNat < 127) :
      ExecEffect s (.rfield idx) (s.respond (s.rxFields[idx.toNat].setWidth 32))
  | rstatus : ExecEffect s .rstatus (s.respond s.statusWord)
  | rinfo : ExecEffect s .rinfo (s.respond s.infoWord)
  | frame (i : Instr) (dir : Direction) (code : Byte) (payload : List Byte) (h : frameInstr code dir payload = some i) :
      ExecEffect s i (s.acceptFrame (directionByte dir) code payload)

/-- `exec` answers a next state, and it is one of the effects above. -/
theorem exec_effect (i : Instr) (s : State) : ∃ t, exec i s = .next t ∧ ExecEffect s i t := by
  cases i with
  | nop => exact ⟨_, rfl, .nop⟩
  | encode code n =>
    by_cases h : s.phase = .idle
    · by_cases hn : n.toNat > Config.maxFields
      · exact ⟨_, by simp only [exec, execEncode, State.whenIdle_idle h]; rw [if_pos hn], .overflow code n h hn⟩
      · exact ⟨_, by simp only [exec, execEncode, State.whenIdle_idle h]; rw [if_neg hn], .queue code n h (by simpa using hn)⟩
    · exact ⟨_, by simp only [exec, execEncode, State.whenIdle_busy h], .reentry _ rfl h⟩
  | decode =>
    by_cases h : s.phase = .idle
    · exact ⟨_, by simp only [exec, execDecode, State.whenIdle_idle h], .arm h⟩
    · exact ⟨_, by simp only [exec, execDecode, State.whenIdle_busy h], .reentry _ rfl h⟩
  | flush tx rx =>
    by_cases h : s.phase = .idle
    · exact ⟨_, by simp only [exec, execFlush, State.whenIdle_idle h], .flush tx rx h⟩
    · exact ⟨_, by simp only [exec, execFlush, State.whenIdle_busy h], .reentry _ rfl h⟩
  | abort =>
    by_cases h : s.phase = .idle
    · exact ⟨_, by simp [exec, execAbort, h], .abortIdle h⟩
    · exact ⟨_, by simp only [exec, execAbort]; rw [if_pos (by simpa using h)], .abort h⟩
  | reset => exact ⟨_, rfl, .reset⟩
  | setcfg a d =>
    cases ha : acceptOfBits a with
    | none => exact ⟨_, by simp only [exec, execSetcfg, ha], .badAccept a d ha⟩
    | some m =>
      by_cases h : s.phase = .idle
      · exact ⟨_, by simp only [exec, execSetcfg, ha, State.whenIdle_idle h], .config a m d h ha⟩
      · exact ⟨_, by simp only [exec, execSetcfg, ha, State.whenIdle_busy h], .reentry _ rfl h⟩
  | wfield idx v =>
    by_cases h : idx.toNat < 127
    · exact ⟨_, by simp only [exec, execWfield]; rw [dif_pos h], .wfield idx v h⟩
    · exact ⟨_, by simp only [exec, execWfield]; rw [dif_neg h], .badWfield idx v h⟩
  | rfield idx =>
    by_cases h : idx.toNat < 127
    · exact ⟨_, by simp only [exec, execRfield]; rw [dif_pos h], .rfield idx h⟩
    · exact ⟨_, by simp only [exec, execRfield]; rw [dif_neg h], .badRfield idx h⟩
  | rstatus => exact ⟨_, rfl, .rstatus⟩
  | rinfo => exact ⟨_, rfl, .rinfo⟩
  | mspReboot dir payload => exact ⟨_, rfl, .frame _ dir 0x44 payload rfl⟩
  | mspVtxConfig dir payload => exact ⟨_, rfl, .frame _ dir 0x58 payload rfl⟩
  | mspVtxConfig89 dir payload => exact ⟨_, rfl, .frame _ dir 0x59 payload rfl⟩
  | mspIdent dir payload => exact ⟨_, rfl, .frame _ dir 0x64 payload rfl⟩
  | mspStatus dir payload => exact ⟨_, rfl, .frame _ dir 0x65 payload rfl⟩
  | mspRawImu dir payload => exact ⟨_, rfl, .frame _ dir 0x66 payload rfl⟩
  | mspServo dir payload => exact ⟨_, rfl, .frame _ dir 0x67 payload rfl⟩
  | mspMotor dir payload => exact ⟨_, rfl, .frame _ dir 0x68 payload rfl⟩
  | mspRc dir payload => exact ⟨_, rfl, .frame _ dir 0x69 payload rfl⟩
  | mspRawGps dir payload => exact ⟨_, rfl, .frame _ dir 0x6A payload rfl⟩
  | mspCompGps dir payload => exact ⟨_, rfl, .frame _ dir 0x6B payload rfl⟩
  | mspAttitude dir payload => exact ⟨_, rfl, .frame _ dir 0x6C payload rfl⟩
  | mspAltitude dir payload => exact ⟨_, rfl, .frame _ dir 0x6D payload rfl⟩
  | mspAnalog dir payload => exact ⟨_, rfl, .frame _ dir 0x6E payload rfl⟩
  | mspRcTuning dir payload => exact ⟨_, rfl, .frame _ dir 0x6F payload rfl⟩
  | mspPid dir payload => exact ⟨_, rfl, .frame _ dir 0x70 payload rfl⟩
  | mspBox dir payload => exact ⟨_, rfl, .frame _ dir 0x71 payload rfl⟩
  | mspMisc dir payload => exact ⟨_, rfl, .frame _ dir 0x72 payload rfl⟩
  | mspCode115 dir payload => exact ⟨_, rfl, .frame _ dir 0x73 payload rfl⟩
  | mspBoxnames dir payload => exact ⟨_, rfl, .frame _ dir 0x74 payload rfl⟩
  | mspPidnames dir payload => exact ⟨_, rfl, .frame _ dir 0x75 payload rfl⟩
  | mspWp dir payload => exact ⟨_, rfl, .frame _ dir 0x76 payload rfl⟩
  | mspBoxids dir payload => exact ⟨_, rfl, .frame _ dir 0x77 payload rfl⟩
  | mspCode120 dir payload => exact ⟨_, rfl, .frame _ dir 0x78 payload rfl⟩
  | mspCode121 dir payload => exact ⟨_, rfl, .frame _ dir 0x79 payload rfl⟩
  | mspSetRawRc dir payload => exact ⟨_, rfl, .frame _ dir 0xC8 payload rfl⟩
  | mspCode201 dir payload => exact ⟨_, rfl, .frame _ dir 0xC9 payload rfl⟩
  | mspSetPid dir payload => exact ⟨_, rfl, .frame _ dir 0xCA payload rfl⟩
  | mspSetBox dir payload => exact ⟨_, rfl, .frame _ dir 0xCB payload rfl⟩
  | mspSetRcTuning dir payload => exact ⟨_, rfl, .frame _ dir 0xCC payload rfl⟩
  | mspAccCalibration dir payload => exact ⟨_, rfl, .frame _ dir 0xCD payload rfl⟩
  | mspMagCalibration dir payload => exact ⟨_, rfl, .frame _ dir 0xCE payload rfl⟩
  | mspCode207 dir payload => exact ⟨_, rfl, .frame _ dir 0xCF payload rfl⟩
  | mspResetConf dir payload => exact ⟨_, rfl, .frame _ dir 0xD0 payload rfl⟩
  | mspSetWp dir payload => exact ⟨_, rfl, .frame _ dir 0xD1 payload rfl⟩
  | mspSwitchRcSerial dir payload => exact ⟨_, rfl, .frame _ dir 0xD2 payload rfl⟩
  | mspCode211 dir payload => exact ⟨_, rfl, .frame _ dir 0xD3 payload rfl⟩
  | mspCode212 dir payload => exact ⟨_, rfl, .frame _ dir 0xD4 payload rfl⟩
  | mspCode213 dir payload => exact ⟨_, rfl, .frame _ dir 0xD5 payload rfl⟩
  | mspSetMotor dir payload => exact ⟨_, rfl, .frame _ dir 0xD6 payload rfl⟩
  | mspEepromWrite dir payload => exact ⟨_, rfl, .frame _ dir 0xFA payload rfl⟩
  | mspDebug dir payload => exact ⟨_, rfl, .frame _ dir 0xFE payload rfl⟩

/-- If `exec` answers next `t`, then `t` is one of the effects above. -/
theorem exec_cases {i : Instr} {s t : State} (h : exec i s = .next t) : ExecEffect s i t := by
  obtain ⟨t', h', e⟩ := exec_effect i s
  rw [h'] at h
  cases h
  exact e

/-- A command word never decodes to a frame row. -/
theorem decodeCommand_not_frame {w : Word} {i : Instr} (h : decodeCommand w = .ok i) (code : Byte) (dir : Direction)
    (payload : List Byte) : frameInstr code dir payload ≠ some i := by
  intro hf
  have hi : encode i = .frame (wireFrame (directionByte dir) code payload) := by
    have hc : code = BitVec.ofNat 8 code.toNat := by simp
    unfold frameInstr at hf
    split at hf <;> cases hf <;> rename_i e <;> rw [e] at hc <;> rw [hc] <;> rfl
  unfold decodeCommand noOperands at h
  split at h <;> (repeat' split at h) <;> cases h <;> cases hi

/-- Everything a step can do to a state, with the event that did it. -/
inductive StepEffect (s : State) : State → Prop
  | held (he : s.events = []) : StepEffect s s
  | illegal (w : Word) (rest : List Event) (r : Reject) (he : s.events = .host w :: rest)
      (hd : decodeCommand w = .error r) :
      StepEffect s { s with events := rest, resultPort := none, fIllegal := true }
  | command (w : Word) (rest : List Event) (i : Instr) (t : State) (he : s.events = .host w :: rest)
      (hd : decodeCommand w = .ok i) (hx : ExecEffect { s with events := rest, resultPort := none } i t) : StepEffect s t
  | waits (rest : List Event) (he : s.events = .decoder :: rest) (h : s.phase = .idle ∨ s.rxq = []) :
      StepEffect s { s with events := rest }
  | eos (rest : List Event) (q : List RxItem) (he : s.events = .decoder :: rest) (hb : s.phase ≠ .idle)
      (hq : s.rxq = .eos :: q) :
      StepEffect s { s with events := rest, rxq := q, err := eosKind s.phase, phase := .idle }
  | hunt (rest : List Event) (q : List RxItem) (b : Byte) (he : s.events = .decoder :: rest) (hq : s.rxq = .byte b :: q)
      (hp : s.phase = .hunt) : StepEffect s (huntByte b { s with events := rest, rxq := q })
  | gotS (rest : List Event) (q : List RxItem) (b : Byte) (he : s.events = .decoder :: rest) (hq : s.rxq = .byte b :: q)
      (hp : s.phase = .gotS) : StepEffect s (gotSByte b { s with events := rest, rxq := q })
  | gotM (rest : List Event) (q : List RxItem) (b : Byte) (he : s.events = .decoder :: rest) (hq : s.rxq = .byte b :: q)
      (hp : s.phase = .gotM) : StepEffect s (gotMByte b { s with events := rest, rxq := q })
  | len (rest : List Event) (q : List RxItem) (b : Byte) (he : s.events = .decoder :: rest) (hq : s.rxq = .byte b :: q)
      (hp : s.phase = .len) : StepEffect s (lenByte b { s with events := rest, rxq := q })
  | code (rest : List Event) (q : List RxItem) (b : Byte) (he : s.events = .decoder :: rest) (hq : s.rxq = .byte b :: q)
      (hp : s.phase = .code) : StepEffect s (codeByte b { s with events := rest, rxq := q })
  | payload (rest : List Event) (q : List RxItem) (b : Byte) (m : Memory) (he : s.events = .decoder :: rest)
      (hq : s.rxq = .byte b :: q) (hp : s.phase = .payload) (hm : s.decBuf.write? s.decCnt.toNat b = some m) :
      StepEffect s { s with
        events := rest
        rxq := q
        decBuf := m
        decCsum := s.decCsum ^^^ b
        decCnt := s.decCnt + 1
        phase := if s.decCnt + 1 = s.decLen then .chk else .payload }
  | commit (rest : List Event) (q : List RxItem) (he : s.events = .decoder :: rest) (hq : s.rxq = .byte s.decCsum :: q)
      (hp : s.phase = .chk) :
      StepEffect s (State.acceptFrame { s with events := rest, rxq := q } s.decDir s.decCode s.decPayload)
  | mismatch (rest : List Event) (q : List RxItem) (b : Byte) (he : s.events = .decoder :: rest)
      (hq : s.rxq = .byte b :: q) (hp : s.phase = .chk) (hb : b ≠ s.decCsum) :
      StepEffect s { s with events := rest, rxq := q, err := .checksumMismatch, phase := .idle }
  | send (rest : List Event) (he : s.events = .send :: rest) : StepEffect s { s with events := rest, txq := s.txq.tail }
  | receive (rest : List Event) (x : RxItem) (he : s.events = .receive x :: rest) :
      StepEffect s { s with events := rest, rxq := s.rxq ++ [x] }
  | streamError (rest : List Event) (he : s.events = .streamError :: rest) :
      StepEffect s { s with events := rest, err := .streamUnavailable, phase := .idle }

/-- A step is the next event on the rest of the schedule. -/
theorem step_of_events {s : State} {e : Event} {rest : List Event} (he : s.events = e :: rest) :
    step s = runEvent e { s with events := rest } := by simp only [step, nextEvent, he]

/-- A DECODER event on an armed decoder with a byte at the head of RXQ: the rule of the phase on that byte (R161). -/
theorem step_byte {s : State} {b : Byte} {q : List RxItem} {rest : List Event} (he : s.events = .decoder :: rest)
    (hp : s.phase ≠ .idle) (hq : s.rxq = .byte b :: q) :
    step s = decoderByte b { s with events := rest, rxq := q } := by
  rw [step_of_events he]
  simp only [runEvent, decoderStep]
  have hb : State.busy { s with events := rest } = true := (State.busy_eq_true _).2 hp
  rw [if_pos hb]
  simp only [hq]

/-- A DECODER event on an armed decoder with EOS at the head of RXQ (R172). -/
theorem step_eos {s : State} {q : List RxItem} {rest : List Event} (he : s.events = .decoder :: rest)
    (hp : s.phase ≠ .idle) (hq : s.rxq = .eos :: q) :
    step s = .next { s with events := rest, rxq := q, err := eosKind s.phase, phase := .idle } := by
  rw [step_of_events he]
  simp only [runEvent, decoderStep]
  have hb : State.busy { s with events := rest } = true := (State.busy_eq_true _).2 hp
  rw [if_pos hb]
  simp only [hq]
  rfl

/-- A DECODER event where the decoder has no step (R161; log entry 3). -/
theorem step_waits {s : State} {rest : List Event} (he : s.events = .decoder :: rest)
    (h : s.phase = .idle ∨ s.rxq = []) : step s = .next { s with events := rest } := by
  rw [step_of_events he]
  simp only [runEvent, decoderStep]
  split
  · rename_i hb
    rcases h with h | h
    · exact absurd h ((State.busy_eq_true _).1 hb)
    · simp only [h]
  · rfl

/-- A legal command word (R110): the command's meaning, with the result port emptied first. -/
theorem step_command {s : State} {w : Word} {rest : List Event} {i : Instr} (he : s.events = .host w :: rest)
    (hd : decodeCommand w = .ok i) : step s = exec i { s with events := rest, resultPort := none } := by
  rw [step_of_events he]
  simp only [runEvent, hostStep, hd]
  rfl

/-- An illegal command word (R121). -/
theorem step_illegal {s : State} {w : Word} {rest : List Event} {r : Reject} (he : s.events = .host w :: rest)
    (hd : decodeCommand w = .error r) :
    step s = .next { s with events := rest, resultPort := none, fIllegal := true } := by
  rw [step_of_events he]
  simp only [runEvent, hostStep, hd]
  rfl

/-- The stream-error input (R304). -/
theorem step_streamError {s : State} {rest : List Event} (he : s.events = .streamError :: rest) :
    step s = .next { s with events := rest, err := .streamUnavailable, phase := .idle } := by
  rw [step_of_events he]
  simp only [runEvent, State.streamError]
  split
  · rfl
  · rename_i hb
    have hp : s.phase = .idle := by simpa using hb
    simp only [State.setErr, hp]

/-- A step answers a next state, one of the effects above, unless it is the payload write to an offset DEC_BUF does not have. -/
theorem step_total (s : State) :
    (∃ t, step s = .next t ∧ StepEffect s t) ∨
    (step s = .fault (.noSuchOffset s.decCnt.toNat) ∧ s.phase = .payload ∧ s.decCnt.toNat = 255) := by
  cases he : s.events with
  | nil => exact .inl ⟨s, by simp [step, nextEvent, he], .held he⟩
  | cons e rest =>
    cases e with
    | host w =>
      left
      cases hd : decodeCommand w with
      | error r => exact ⟨_, step_illegal he hd, .illegal w rest r he hd⟩
      | ok i =>
        obtain ⟨t, ht, hx⟩ := exec_effect i { s with events := rest, resultPort := none }
        exact ⟨t, (step_command he hd).trans ht, .command w rest i t he hd hx⟩
    | send => exact .inl ⟨_, by rw [step_of_events he]; rfl, .send rest he⟩
    | receive x => exact .inl ⟨_, by rw [step_of_events he]; rfl, .receive rest x he⟩
    | streamError => exact .inl ⟨_, step_streamError he, .streamError rest he⟩
    | decoder =>
      by_cases hp : s.phase = .idle
      · exact .inl ⟨_, step_waits he (.inl hp), .waits rest he (.inl hp)⟩
      cases hq : s.rxq with
      | nil => exact .inl ⟨_, step_waits he (.inr hq), .waits rest he (.inr hq)⟩
      | cons x q =>
        cases x with
        | eos => exact .inl ⟨_, step_eos he hp hq, .eos rest q he hp hq⟩
        | byte b =>
          have hs := step_byte he hp hq
          cases hph : s.phase with
          | idle => exact absurd hph hp
          | hunt => exact .inl ⟨_, by rw [hs]; simp only [decoderByte, hph], .hunt rest q b he hq hph⟩
          | gotS => exact .inl ⟨_, by rw [hs]; simp only [decoderByte, hph], .gotS rest q b he hq hph⟩
          | gotM => exact .inl ⟨_, by rw [hs]; simp only [decoderByte, hph], .gotM rest q b he hq hph⟩
          | len => exact .inl ⟨_, by rw [hs]; simp only [decoderByte, hph], .len rest q b he hq hph⟩
          | code => exact .inl ⟨_, by rw [hs]; simp only [decoderByte, hph], .code rest q b he hq hph⟩
          | payload =>
            cases hm : s.decBuf.write? s.decCnt.toNat b with
            | some m =>
              exact .inl ⟨_, by rw [hs]; simp only [decoderByte, hph, payloadStep, hm], .payload rest q b m he hq hph hm⟩
            | none =>
              refine .inr ⟨by rw [hs]; simp only [decoderByte, hph, payloadStep, hm], rfl, ?_⟩
              unfold Memory.write? at hm
              split at hm
              · cases hm
              · have := s.decCnt.isLt
                simp only [Config.decBufSize] at *
                omega
          | chk =>
            left
            by_cases hc : b = s.decCsum
            · subst hc
              exact ⟨_, by rw [hs]; simp only [decoderByte, hph, chkByte_eq, if_true]; rfl, .commit rest q he hq hph⟩
            · exact ⟨_, by rw [hs]; simp only [decoderByte, hph, chkByte_eq]; rw [if_neg hc]; rfl,
                .mismatch rest q b he hq hph hc⟩

/-- If a step answers next `t`, then `t` is one of the effects above. -/
theorem step_cases {s t : State} (h : step s = .next t) : StepEffect s t := by
  rcases step_total s with ⟨t', h', e⟩ | ⟨h', _⟩
  · rw [h'] at h
    cases h
    exact e
  · rw [h'] at h
    cases h

end Sys2Proof.Machine
end

