-- ==== Sys2Proof/Laws/Run.lean ====
section
/-! SUPPORT. Runs of several steps, and what the decoder does over the payload of a frame. -/

namespace Sys2Proof.Machine

/-- No step at all. -/
theorem run_zero (s : State) : Host.Core.run Sys2Proof.core 0 s = .next s := rfl

/-- One step, then the others. -/
theorem run_succ {k : Nat} {s t : State} (h : step s = .next t) :
    Host.Core.run Sys2Proof.core (k + 1) s = Host.Core.run Sys2Proof.core k t := by
  have h' : Sys2Proof.core.step s = .next t := h
  simp only [Host.Core.run, h']

/-- A run in two parts. -/
theorem run_add (j k : Nat) {s t : State} (h : Host.Core.run Sys2Proof.core j s = .next t) :
    Host.Core.run Sys2Proof.core (j + k) s = Host.Core.run Sys2Proof.core k t := by
  induction j generalizing s with
  | zero =>
    rw [run_zero] at h
    cases h
    rw [Nat.zero_add]
  | succ j ih =>
    have h' := h
    simp only [Host.Core.run] at h'
    rw [Nat.succ_add]
    cases hs : step s with
    | next s' =>
      rw [run_succ hs]
      rw [run_succ hs] at h
      exact ih h
    | fault r =>
      have : Sys2Proof.core.step s = .fault r := hs
      rw [this] at h'
      cases h'
    | refused r =>
      have : Sys2Proof.core.step s = .refused r := hs
      rw [this] at h'
      cases h'

/-- The payload of a frame, byte by byte: DEC_BUF holds it in order, DEC_CSUM covers it, and the decoder awaits the
checksum byte (R168). -/
theorem run_payload (p : List Byte) : ∀ (s : State) (q : List RxItem) (rest : List Event), p ≠ [] →
    s.phase = .payload → s.decBuf.wf = true → s.decCnt.toNat + p.length = s.decLen.toNat →
    s.rxq = p.map .byte ++ q → s.events = List.replicate p.length .decoder ++ rest →
    ∃ m : Memory, m.wf = true ∧ m.firstBytes s.decLen.toNat = s.decBuf.firstBytes s.decCnt.toNat ++ p ∧
      Host.Core.run Sys2Proof.core p.length s = .next { s with
        phase := .chk
        decCnt := s.decLen
        decCsum := p.foldl (fun c b => c ^^^ b) s.decCsum
        decBuf := m
        rxq := q
        events := rest } := by
  induction p with
  | nil => intro s q rest hne; exact absurd rfl hne
  | cons b p ih =>
    intro s q rest _ hp hw hc hq he
    have hlt := s.decLen.isLt
    simp only [List.length_cons] at hc
    have hcnt : s.decCnt.toNat < 255 := by omega
    have hm : s.decBuf.write? s.decCnt.toNat b = some ⟨writeCells s.decBuf.cells s.decCnt.toNat b⟩ :=
      (Memory.write?_eq_some ..).2 ⟨hcnt, rfl⟩
    have hwf := Memory.wf_write? hw hm
    have hfb := Memory.firstBytes_write? hw hm
    have e := step_byte (rest := List.replicate p.length .decoder ++ rest) (q := p.map .byte ++ q) (b := b) he
      (by rw [hp]; decide) hq
    simp only [decoderByte, hp, payloadStep, hm] at e
    rw [List.length_cons, run_succ e]
    have hinc : (s.decCnt + 1).toNat = s.decCnt.toNat + 1 := by
      rw [BitVec.toNat_add]
      exact Nat.mod_eq_of_lt (by simp; omega)
    cases p with
    | nil =>
      simp only [List.length_nil] at hc
      have hl : s.decCnt + 1 = s.decLen := BitVec.eq_of_toNat_eq (by rw [hinc]; omega)
      refine ⟨_, hwf, by rw [← hc, hfb], ?_⟩
      rw [hl, if_pos rfl]
      rfl
    | cons b' p =>
      have hl : ¬ s.decCnt + 1 = s.decLen := by
        intro h
        have := congrArg BitVec.toNat h
        simp only [List.length_cons] at hc
        omega
      obtain ⟨m, h1, h2, h3⟩ := ih { s with
        phase := if s.decCnt + 1 = s.decLen then .chk else .payload
        decCnt := s.decCnt + 1
        decCsum := s.decCsum ^^^ b
        decBuf := ⟨writeCells s.decBuf.cells s.decCnt.toNat b⟩
        rxq := (b' :: p).map .byte ++ q
        events := List.replicate (b' :: p).length .decoder ++ rest } q rest (by simp) (if_neg hl) hwf
        (by simp only [hinc]; omega) rfl rfl
      refine ⟨m, h1, ?_, ?_⟩
      · rw [h2]
        simp only [hinc, hfb, List.append_assoc, List.singleton_append]
      · rw [h3]
        rfl

/-- A frame from its length byte to its checksum byte: the commit if the checksum byte is right, else ChecksumMismatch and
no commit (R166 to R169). The other registers keep the values they had. -/
theorem run_body (s : State) (code k : Byte) (p : List Byte) (q : List RxItem) (rest : List Event) (hl : p.length ≤ 255)
    (hp : s.phase = .len) (hw : s.decBuf.wf = true)
    (hq : s.rxq = (BitVec.ofNat 8 p.length :: code :: (p ++ [k])).map .byte ++ q)
    (he : s.events = List.replicate (p.length + 3) .decoder ++ rest) :
    ∃ m : Memory, m.wf = true ∧ Host.Core.run Sys2Proof.core (p.length + 3) s = .next
      (let t : State := { s with
        decLen := BitVec.ofNat 8 p.length
        decCode := code
        decCnt := BitVec.ofNat 8 p.length
        decCsum := checksum (BitVec.ofNat 8 p.length) code p
        decBuf := m
        rxq := q
        events := rest }
      if k = checksum (BitVec.ofNat 8 p.length) code p then t.acceptFrame s.decDir code p
      else { t with err := .checksumMismatch, phase := .idle }) := by
  have hn : (BitVec.ofNat 8 p.length).toNat = p.length := by
    rw [BitVec.toNat_ofNat]; exact Nat.mod_eq_of_lt (by omega)
  have e1 := step_byte (b := BitVec.ofNat 8 p.length) (q := (code :: (p ++ [k])).map .byte ++ q)
    (rest := List.replicate (p.length + 2) .decoder ++ rest) he (by rw [hp]; decide) hq
  simp only [decoderByte, hp, lenByte] at e1
  rw [run_succ e1]
  have e2 := step_byte (s := { s with
      phase := .code
      decLen := BitVec.ofNat 8 p.length
      decCnt := 0x00
      decCsum := BitVec.ofNat 8 p.length
      rxq := (code :: (p ++ [k])).map .byte ++ q
      events := List.replicate (p.length + 2) .decoder ++ rest }) (b := code) (q := (p ++ [k]).map .byte ++ q)
    (rest := List.replicate (p.length + 1) .decoder ++ rest) rfl (by simp) rfl
  simp only [decoderByte, codeByte] at e2
  rw [run_succ e2]
  have key : ∀ m : Memory, m.firstBytes p.length = p →
      step { s with
        phase := .chk
        decLen := BitVec.ofNat 8 p.length
        decCode := code
        decCnt := BitVec.ofNat 8 p.length
        decCsum := checksum (BitVec.ofNat 8 p.length) code p
        decBuf := m
        rxq := .byte k :: q
        events := .decoder :: rest } = .next
      (let t : State := { s with
        decLen := BitVec.ofNat 8 p.length
        decCode := code
        decCnt := BitVec.ofNat 8 p.length
        decCsum := checksum (BitVec.ofNat 8 p.length) code p
        decBuf := m
        rxq := q
        events := rest }
      if k = checksum (BitVec.ofNat 8 p.length) code p then t.acceptFrame s.decDir code p
      else { t with err := .checksumMismatch, phase := .idle }) := by
    intro m hm
    rw [step_byte (b := k) (q := q) (rest := rest) rfl (by simp) rfl]
    simp only [decoderByte, chkByte_eq, State.decPayload, hn, hm]
    split <;> rfl
  cases p with
  | nil =>
    refine ⟨s.decBuf, hw, ?_⟩
    have e3 := key s.decBuf rfl
    exact run_succ e3
  | cons b p =>
    have hz : ¬ BitVec.ofNat 8 (b :: p).length = 0x00 := by
      intro h
      have := congrArg BitVec.toNat h
      rw [hn] at this
      simp at this
    simp only [if_neg hz]
    obtain ⟨m, h1, h2, h3⟩ := run_payload (b :: p) { s with
        phase := .payload
        decLen := BitVec.ofNat 8 (b :: p).length
        decCode := code
        decCnt := 0x00
        decCsum := BitVec.ofNat 8 (b :: p).length ^^^ code
        rxq := (b :: p).map .byte ++ (.byte k :: q)
        events := List.replicate (b :: p).length .decoder ++ (.decoder :: rest) } (.byte k :: q) (.decoder :: rest)
      (by simp) rfl hw (by simp only [hn]; simp) rfl rfl
    have hc : List.foldl (fun c b => c ^^^ b) (BitVec.ofNat 8 (b :: p).length ^^^ code) (b :: p) =
        checksum (BitVec.ofNat 8 (b :: p).length) code (b :: p) := by simp [checksum]
    simp only [hn, hc] at h2 h3
    refine ⟨m, h1, ?_⟩
    have e3 := key m h2
    have hq' : ((b :: p) ++ [k]).map RxItem.byte ++ q = (b :: p).map RxItem.byte ++ (.byte k :: q) := by simp
    have he' : List.replicate ((b :: p).length + 1) Event.decoder ++ rest =
        List.replicate (b :: p).length .decoder ++ (.decoder :: rest) := by
      rw [List.replicate_succ', List.append_assoc]; rfl
    rw [hq', he', run_add (b :: p).length 1 h3]
    exact run_succ e3

end Sys2Proof.Machine
end

