-- ==== Sys2Proof/Tests/Slice0.lean ====
section
/-! SUPPORT. Tests: ill-formed terms, decodings of words written from the encodings, single steps with the results spec/95 gives,
and, for each statement with hypotheses, a witness that meets them. -/

namespace Sys2Proof.Tests

open Sys2Proof Sys2Proof.Machine

/-- The state an outcome goes on with; State.reset where it stops (no test meets a stop). -/
def after (o : Host.Outcome State Fault Refusal) : State :=
  match o with
  | .next t => t
  | .fault _ => State.reset
  | .refused _ => State.reset

/-- The machine goes on. -/
def goesOn (o : Host.Outcome State Fault Refusal) : Bool :=
  match o with
  | .next _ => true
  | .fault _ => false
  | .refused _ => false

/-- The reset state with these events to come. -/
def start (evs : List Event) : State := { State.reset with events := evs }

/-- The reset state in a phase, with items in RXQ and events to come. -/
def armed (p : Phase) (q : List RxItem) (evs : List Event) : State :=
  { State.reset with phase := p, rxq := q, events := evs }

/-- RXQ items that are bytes. -/
def items (bs : List Byte) : List RxItem := bs.map .byte

/-- The attitude response of spec/95 section 1.6 with its checksum byte still to come. -/
def attitude (b : Byte) : State :=
  { State.reset with
    phase := .chk, decLen := 6, decCode := 0x6C, decDir := 0x3E, decCnt := 6, decCsum := 0x30
    decBuf := ⟨[(0, 0x64), (2, 0xCE), (3, 0xFF), (4, 0x0E), (5, 0x01)]⟩
    rxq := [.byte b], events := [.decoder] }

/-- A 2-byte altitude payload with one byte read, `24 4D 3E 02 6D D2`. -/
def inPayload (q : List RxItem) (evs : List Event) : State :=
  { State.reset with
    phase := .payload, decLen := 2, decCode := 0x6D, decDir := 0x3E, decCnt := 1, decCsum := 0xBD
    decBuf := ⟨[(0, 0xD2)]⟩, rxq := q, events := evs }

/-! ## WellFormed refuses -/

theorem test_wellFormed_wfield_127 : Instr.wellFormed (.wfield 127 0x0001) = false := by decide

theorem test_wellFormed_rfield_127 : Instr.wellFormed (.rfield 127) = false := by decide

theorem test_wellFormed_setcfg_3 : Instr.wellFormed (.setcfg 3 .request) = false := by decide

theorem test_wellFormed_long_payload :
    Instr.wellFormed (.mspDebug .request (List.replicate 256 0x00)) = false := by decide +kernel

theorem test_wellFormed_boundaries : Instr.wellFormed (.wfield 126 0xFFFF) = true ∧ Instr.wellFormed (.rfield 126) = true ∧
    Instr.wellFormed (.setcfg 2 .response) = true ∧
    Instr.wellFormed (.mspDebug .request (List.replicate 255 0x00)) = true := by decide +kernel

/-! ## Decoding: command words from spec/95 sections 2.2, 2.3 and 2.6 -/

theorem test_decode_nop : decodeCommand 0x00000000 = .ok .nop := by decide

theorem test_decode_encode : decodeCommand 0x00036C01 = .ok (.encode 0x6C 3) := by decide

theorem test_decode_decode : decodeCommand 0x00000002 = .ok .decode := by decide

theorem test_decode_flush : decodeCommand 0x00000103 = .ok (.flush false true) ∧
    decodeCommand 0x00000203 = .ok (.flush true false) := by decide

theorem test_decode_abort : decodeCommand 0x00000004 = .ok .abort := by decide

theorem test_decode_reset : decodeCommand 0x00000005 = .ok .reset := by decide

theorem test_decode_setcfg : decodeCommand 0x00000106 = .ok (.setcfg 1 .request) ∧
    decodeCommand 0x00000606 = .ok (.setcfg 2 .response) := by decide

theorem test_decode_wfield : decodeCommand 0xFFFF7E07 = .ok (.wfield 126 0xFFFF) ∧
    decodeCommand 0x010E0207 = .ok (.wfield 2 270) := by decide

theorem test_decode_rfield : decodeCommand 0x00007E08 = .ok (.rfield 126) := by decide

theorem test_decode_rstatus : decodeCommand 0x00000009 = .ok .rstatus := by decide

theorem test_decode_rinfo : decodeCommand 0x0000000A = .ok .rinfo := by decide

theorem test_decode_illegal_op : decodeCommand 0x0000000B = .error .reservedOp ∧
    decodeCommand 0x0000000F = .error .reservedOp := by decide

theorem test_decode_illegal_bits : decodeCommand 0x00000010 = .error .reservedBit ∧
    decodeCommand 0x80000000 = .error .reservedBit ∧ decodeCommand 0x00000102 = .error .reservedBit ∧
    decodeCommand 0x01000001 = .error .reservedBit ∧ decodeCommand 0x00000403 = .error .reservedBit ∧
    decodeCommand 0x00000806 = .error .reservedBit ∧ decodeCommand 0x00008007 = .error .reservedBit ∧
    decodeCommand 0x00010008 = .error .reservedBit ∧ decodeCommand 0x0000F009 = .error .reservedBit := by decide

theorem test_decode_illegal_operands : decodeCommand 0x00000306 = .error .acceptReserved ∧
    decodeCommand 0x00007F07 = .error .fieldIndex127 ∧ decodeCommand 0x00007F08 = .error .fieldIndex127 := by decide

/-! ## Decoding: the request frames `24 4D 3C 00 cc cc` of spec/95 section 2.5 -/

theorem test_decode_frames_telemetry_low :
    decodeFrame [0x24, 0x4D, 0x3C, 0x00, 0x64, 0x64] = .ok (.mspIdent .request []) ∧
    decodeFrame [0x24, 0x4D, 0x3C, 0x00, 0x65, 0x65] = .ok (.mspStatus .request []) ∧
    decodeFrame [0x24, 0x4D, 0x3C, 0x00, 0x66, 0x66] = .ok (.mspRawImu .request []) ∧
    decodeFrame [0x24, 0x4D, 0x3C, 0x00, 0x67, 0x67] = .ok (.mspServo .request []) ∧
    decodeFrame [0x24, 0x4D, 0x3C, 0x00, 0x68, 0x68] = .ok (.mspMotor .request []) ∧
    decodeFrame [0x24, 0x4D, 0x3C, 0x00, 0x69, 0x69] = .ok (.mspRc .request []) ∧
    decodeFrame [0x24, 0x4D, 0x3C, 0x00, 0x6A, 0x6A] = .ok (.mspRawGps .request []) ∧
    decodeFrame [0x24, 0x4D, 0x3C, 0x00, 0x6B, 0x6B] = .ok (.mspCompGps .request []) ∧
    decodeFrame [0x24, 0x4D, 0x3C, 0x00, 0x6C, 0x6C] = .ok (.mspAttitude .request []) ∧
    decodeFrame [0x24, 0x4D, 0x3C, 0x00, 0x6D, 0x6D] = .ok (.mspAltitude .request []) ∧
    decodeFrame [0x24, 0x4D, 0x3C, 0x00, 0x6E, 0x6E] = .ok (.mspAnalog .request []) := by decide

theorem test_decode_frames_telemetry_high :
    decodeFrame [0x24, 0x4D, 0x3C, 0x00, 0x6F, 0x6F] = .ok (.mspRcTuning .request []) ∧
    decodeFrame [0x24, 0x4D, 0x3C, 0x00, 0x70, 0x70] = .ok (.mspPid .request []) ∧
    decodeFrame [0x24, 0x4D, 0x3C, 0x00, 0x71, 0x71] = .ok (.mspBox .request []) ∧
    decodeFrame [0x24, 0x4D, 0x3C, 0x00, 0x72, 0x72] = .ok (.mspMisc .request []) ∧
    decodeFrame [0x24, 0x4D, 0x3C, 0x00, 0x73, 0x73] = .ok (.mspCode115 .request []) ∧
    decodeFrame [0x24, 0x4D, 0x3C, 0x00, 0x74, 0x74] = .ok (.mspBoxnames .request []) ∧
    decodeFrame [0x24, 0x4D, 0x3C, 0x00, 0x75, 0x75] = .ok (.mspPidnames .request []) ∧
    decodeFrame [0x24, 0x4D, 0x3C, 0x00, 0x76, 0x76] = .ok (.mspWp .request []) ∧
    decodeFrame [0x24, 0x4D, 0x3C, 0x00, 0x77, 0x77] = .ok (.mspBoxids .request []) ∧
    decodeFrame [0x24, 0x4D, 0x3C, 0x00, 0x78, 0x78] = .ok (.mspCode120 .request []) ∧
    decodeFrame [0x24, 0x4D, 0x3C, 0x00, 0x79, 0x79] = .ok (.mspCode121 .request []) := by decide

theorem test_decode_frames_control_low :
    decodeFrame [0x24, 0x4D, 0x3C, 0x00, 0xC8, 0xC8] = .ok (.mspSetRawRc .request []) ∧
    decodeFrame [0x24, 0x4D, 0x3C, 0x00, 0xC9, 0xC9] = .ok (.mspCode201 .request []) ∧
    decodeFrame [0x24, 0x4D, 0x3C, 0x00, 0xCA, 0xCA] = .ok (.mspSetPid .request []) ∧
    decodeFrame [0x24, 0x4D, 0x3C, 0x00, 0xCB, 0xCB] = .ok (.mspSetBox .request []) ∧
    decodeFrame [0x24, 0x4D, 0x3C, 0x00, 0xCC, 0xCC] = .ok (.mspSetRcTuning .request []) ∧
    decodeFrame [0x24, 0x4D, 0x3C, 0x00, 0xCD, 0xCD] = .ok (.mspAccCalibration .request []) ∧
    decodeFrame [0x24, 0x4D, 0x3C, 0x00, 0xCE, 0xCE] = .ok (.mspMagCalibration .request []) ∧
    decodeFrame [0x24, 0x4D, 0x3C, 0x00, 0xCF, 0xCF] = .ok (.mspCode207 .request []) := by decide

theorem test_decode_frames_control_high :
    decodeFrame [0x24, 0x4D, 0x3C, 0x00, 0xD0, 0xD0] = .ok (.mspResetConf .request []) ∧
    decodeFrame [0x24, 0x4D, 0x3C, 0x00, 0xD1, 0xD1] = .ok (.mspSetWp .request []) ∧
    decodeFrame [0x24, 0x4D, 0x3C, 0x00, 0xD2, 0xD2] = .ok (.mspSwitchRcSerial .request []) ∧
    decodeFrame [0x24, 0x4D, 0x3C, 0x00, 0xD3, 0xD3] = .ok (.mspCode211 .request []) ∧
    decodeFrame [0x24, 0x4D, 0x3C, 0x00, 0xD4, 0xD4] = .ok (.mspCode212 .request []) ∧
    decodeFrame [0x24, 0x4D, 0x3C, 0x00, 0xD5, 0xD5] = .ok (.mspCode213 .request []) ∧
    decodeFrame [0x24, 0x4D, 0x3C, 0x00, 0xD6, 0xD6] = .ok (.mspSetMotor .request []) := by decide

theorem test_decode_frames_maintenance :
    decodeFrame [0x24, 0x4D, 0x3C, 0x00, 0x44, 0x44] = .ok (.mspReboot .request []) ∧
    decodeFrame [0x24, 0x4D, 0x3C, 0x00, 0x58, 0x58] = .ok (.mspVtxConfig .request []) ∧
    decodeFrame [0x24, 0x4D, 0x3C, 0x00, 0x59, 0x59] = .ok (.mspVtxConfig89 .request []) ∧
    decodeFrame [0x24, 0x4D, 0x3C, 0x00, 0xFA, 0xFA] = .ok (.mspEepromWrite .request []) ∧
    decodeFrame [0x24, 0x4D, 0x3C, 0x00, 0xFE, 0xFE] = .ok (.mspDebug .request []) := by decide

/-- spec/95 sections 1.6, 1.8 and 2.4: the attitude response, an uncatalogued code, and streams that are no frame. -/
theorem test_decode_frame_bytes :
    decodeFrame [0x24, 0x4D, 0x3E, 0x06, 0x6C, 0x64, 0x00, 0xCE, 0xFF, 0x0E, 0x01, 0x30] =
      .ok (.mspAttitude .response [0x64, 0x00, 0xCE, 0xFF, 0x0E, 0x01]) ∧
    decodeFrame [0x24, 0x4D, 0x3E, 0x02, 0x63, 0xEF, 0xBE, 0x30] = .error .uncataloguedCode ∧
    decodeFrame [0x24, 0x4D, 0x21, 0x00, 0x6C, 0x6C] = .error .noMarker ∧
    decodeFrame [0x24, 0x4D, 0x3E, 0x04, 0x6D, 0xD2] = .error .truncated ∧
    decodeFrame [0x24, 0x4D, 0x3C, 0x00, 0xEC, 0x6C] = .error .badChecksum ∧
    decodeFrame [0x24, 0x4D, 0x3C, 0x00, 0x6C, 0x6C, 0x55] = .error .trailingBytes := by decide

/-- spec/95 section 2.1. -/
theorem test_checksum : checksum 0 0x00 [] = 0x00 ∧ checksum 2 0x6C [0x5A, 0x5A] = 0x6E ∧
    checksum 4 0x6D [0xD2, 0x04, 0xF9, 0xFF] = 0xB9 ∧ checksum 4 0xFF [0xFF, 0xFF, 0xFF, 0xFF] = 0xFB ∧
    checksum 3 0x65 [0x01, 0x02, 0x03] = 0x66 := by decide

/-! ## The host's two entry points -/

theorem test_decodeTableWord : decodeTableWord 32 0x00036C01 = some (.encode 0x6C 3) ∧ decodeTableWord 32 0x0000000B = none ∧
    decodeTableWord 8 0x6C = some (.mspAttitude .request []) ∧ decodeTableWord 8 0x63 = none := by decide

theorem test_withFetchWord_command : step (State.reset.withFetchWord 32 0x00036C01) =
    exec (.encode 0x6C 3) State.reset := rfl

theorem test_withFetchWord_frame : (after (step (State.reset.withFetchWord 8 0x70))).rxCode = 0x70 ∧
    (after (step (State.reset.withFetchWord 8 0x70))).short = true ∧
    (after (step (State.reset.withFetchWord 8 0x70))).rxDir = 0x3C := by decide

/-! ## Single steps: commands (spec/95 sections 2.2, 2.3, 2.6) -/

theorem test_step_nop : step (start [.host 0x00000000]) = .next State.reset := rfl

theorem test_step_encode : (after (step (start [.host 0x00006C01]))).txq = [0x24, 0x4D, 0x3C, 0x00, 0x6C, 0x6C] ∧
    (after (exec (.encode 0x6D 2) { State.reset with
      encFields := (State.reset.encFields.set 0 0x04D2).set 1 0xFFF9, cfgEncdir := .response, txq := [0x55] })).txq =
      [0x55, 0x24, 0x4D, 0x3E, 0x04, 0x6D, 0xD2, 0x04, 0xF9, 0xFF, 0xB9] := by decide +kernel

theorem test_step_encode_refused : (after (step (start [.host 0x00806C01]))).err = .lengthOverflow ∧
    (after (step (start [.host 0x00806C01]))).txq = [] ∧
    (after (step (armed .hunt [] [.host 0x00C86C01]))).fReentry = true ∧
    (after (step (armed .hunt [] [.host 0x00C86C01]))).err = .ok ∧
    (after (step (armed .hunt [] [.host 0x01006C01]))).fReentry = false ∧
    (after (step (armed .hunt [] [.host 0x01006C01]))).fIllegal = true := by decide

theorem test_step_decode : (after (step { start [.host 0x00000002] with err := .checksumMismatch })).phase = .hunt ∧
    (after (step { start [.host 0x00000002] with err := .checksumMismatch })).err = .ok := by decide

theorem test_step_flush :
    (after (step { armed .idle (items [0x01, 0x02]) [.host 0x00000103] with txq := [0x24] })).rxq = [] ∧
    (after (step { armed .idle (items [0x01, 0x02]) [.host 0x00000103] with txq := [0x24] })).txq = [0x24] := by decide

theorem test_step_flush_none :
    (after (step { armed .idle (items [0x01, 0x02]) [.host 0x00000003] with txq := [0x24] })).rxq = items [0x01, 0x02] := by
  decide

theorem test_step_abort_busy : (after (step (armed .gotM [] [.host 0x00000004]))).phase = .idle ∧
    (after (step (armed .gotM [] [.host 0x00000004]))).err = .timeout := by decide

theorem test_step_abort_idle :
    (after (step { start [.host 0x00000004] with err := .checksumMismatch })).err = .checksumMismatch := by decide

theorem test_step_reset :
    (after (step { armed .chk [] [.host 0x00000005] with fIllegal := true, cfgAccept := .rsp })).statusWord = 0x00000C00 := by
  decide

theorem test_step_setcfg : (after (step (start [.host 0x00000606]))).statusWord = 0x00600C00 ∧
    (after (step (start [.host 0x00000106]))).statusWord = 0x00100C00 := by decide

theorem test_step_setcfg_illegal : (after (step (start [.host 0x00000306]))).statusWord = 0x00000D00 := by decide

theorem test_step_wfield : (after (step (start [.host 0xFFFF7E07]))).encFields[126] = 0xFFFF ∧
    (after (step (start [.host 0x010E0207]))).encFields[2] = 0x010E := by decide +kernel

theorem test_step_rfield :
    (after (step { start [.host 0x00000108] with rxFields := State.reset.rxFields.set 1 0xFFCE })).resultPort =
      some 0x0000FFCE := by decide +kernel

theorem test_step_rfield_illegal : (after (step (start [.host 0x00010008]))).resultPort = none ∧
    (after (step (start [.host 0x00010008]))).fIllegal = true := by decide

theorem test_step_rstatus : (after (step (start [.host 0x00000009]))).resultPort = some 0x00000C00 ∧
    (after (step (armed .hunt [] [.host 0x00000009]))).resultPort = some 0x00010C10 := by decide

theorem test_step_rinfo :
    (after (step { start [.host 0x0000000A] with rxCode := 0x6C, rxLen := 6, rxDir := 0x3E })).resultPort =
      some 0x003E066C := by decide

/-! ## Single steps: frames, decoder and transport (spec/95 sections 1.6, 1.7, 2.4, 2.5, 2.7) -/

theorem test_step_attitude_commits : (after (step (attitude 0x30))).rxFields.toList.take 4 = [0x0064, 0xFFCE, 0x010E, 0] ∧
    (after (step (attitude 0x30))).infoWord = 0x003E066C ∧ (after (step (attitude 0x30))).statusWord = 0x00000C00 := by
  decide +kernel

theorem test_step_attitude_mismatch : (after (step (attitude 0x31))).statusWord = 0x00000C01 ∧
    (after (step (attitude 0x31))).infoWord = 0 := by decide

theorem test_exec_pid : (after (exec (.mspPid .response [0x0A, 0, 0xE8, 0x03, 5, 0, 0, 0, 0, 0, 0, 0, 0, 0, 0, 0, 0, 0])
    State.reset)).rxFields.toList.take 3 = [0x000A, 0x03E8, 0x0005] ∧
    (after (exec (.mspPid .response (List.replicate 18 0)) State.reset)).short = false ∧
    (after (exec (.mspPid .response (List.replicate 17 0)) State.reset)).short = true := by decide +kernel

theorem test_exec_minimums :
    (after (exec (.mspRawImu .response (List.replicate 16 0)) State.reset)).short = true ∧
    (after (exec (.mspRawImu .response (List.replicate 18 0)) State.reset)).short = false ∧
    (after (exec (.mspRc .response (List.replicate 6 0)) State.reset)).short = true ∧
    (after (exec (.mspRc .response (List.replicate 8 0)) State.reset)).short = false ∧
    (after (exec (.mspRawGps .response (List.replicate 10 0)) State.reset)).short = true ∧
    (after (exec (.mspRawGps .response (List.replicate 12 0)) State.reset)).short = false ∧
    (after (exec (.mspAltitude .response (List.replicate 2 0)) State.reset)).short = true ∧
    (after (exec (.mspAltitude .response (List.replicate 4 0)) State.reset)).short = false ∧
    (after (exec (.mspMotor .response []) State.reset)).short = false ∧
    (after (exec (.mspSetRawRc .request []) State.reset)).short = false := by decide

/-- `24 4D 3C 01 6C AB C6`: one payload byte, no field. -/
theorem test_exec_odd : (after (exec (.mspAttitude .request [0xAB]) State.reset)).infoWord = 0xAB3C016C ∧
    (after (exec (.mspAttitude .request [0xAB]) State.reset)).statusWord = 0x00000CC0 := by decide

/-- A frame with a code outside the catalog commits raw, UNKNOWN = 1: `24 4D 3E 02 63 EF BE 30`. -/
def rawFrame : State :=
  { State.reset with
    phase := .chk, decLen := 2, decCode := 0x63, decDir := 0x3E, decCnt := 2, decCsum := 0x30
    decBuf := ⟨[(0, 0xEF), (1, 0xBE)]⟩, rxq := [.byte 0x30], events := [.decoder] }

theorem test_step_uncatalogued : (after (step rawFrame)).rxFields[0] = 0xBEEF ∧ (after (step rawFrame)).statusWord = 0x00000C20 ∧
    (after (step rawFrame)).infoWord = 0x003E0263 := by decide +kernel

theorem test_step_hunt : (after (step (armed .hunt (items [0x00]) [.decoder]))).phase = .hunt ∧
    (after (step (armed .hunt (items [0x24]) [.decoder]))).phase = .gotS ∧
    (after (step (armed .gotS (items [0x24]) [.decoder]))).phase = .gotS ∧
    (after (step (armed .gotS (items [0x4D]) [.decoder]))).phase = .gotM ∧
    (after (step (armed .gotM (items [0x21]) [.decoder]))).phase = .hunt ∧
    (after (step (armed .gotM (items [0x3C]) [.decoder]))).phase = .len ∧
    (after (step { armed .gotM (items [0x3C]) [.decoder] with cfgAccept := .rsp })).phase = .hunt := by decide

/-- R166 and R167's examples, and L = 0. -/
theorem test_step_header : (after (step (armed .len (items [0x06]) [.decoder]))).decCsum = 0x06 ∧
    (after (step { armed .code (items [0x6C]) [.decoder] with decLen := 6, decCsum := 6 })).decCsum = 0x6A ∧
    (after (step { armed .code (items [0x6C]) [.decoder] with decLen := 6, decCsum := 6 })).phase = .payload ∧
    (after (step (armed .code (items [0x6C]) [.decoder]))).phase = .chk := by decide

/-- R168's example: one payload byte of one. -/
theorem test_step_payload : (after (step { armed .payload (items [0x05]) [.decoder] with decLen := 1 })).decBuf = ⟨[(0, 0x05)]⟩ ∧
    (after (step { armed .payload (items [0x05]) [.decoder] with decLen := 1 })).phase = .chk := by decide

theorem test_step_eos : (after (step (armed .gotM [.eos] [.decoder]))).err = .streamUnavailable ∧
    (after (step (armed .payload [.eos] [.decoder]))).err = .malformedSequence ∧
    (after (step (armed .payload [.eos] [.decoder]))).rxq = [] := by decide

theorem test_step_streamError : (after (step (armed .gotM (items [0x01]) [.streamError]))).err = .streamUnavailable ∧
    (after (step (armed .gotM (items [0x01]) [.streamError]))).phase = .idle ∧
    (after (step (armed .gotM (items [0x01]) [.streamError]))).rxq = items [0x01] := by decide

theorem test_step_transport : (after (step { start [.send] with txq := [0x24, 0x4D] })).txq = [0x4D] ∧
    (after (step (armed .idle (items [0x01]) [.receive .eos]))).rxq = [.byte 0x01, .eos] := by decide

/-- R307's order. -/
theorem test_cycleOrder : cycleOrder [.send, .decoder, .host 0x00000009, .streamError, .host 0x00000005] =
    [.host 0x00000005, .streamError, .host 0x00000009, .decoder, .send] := by decide

/-! ## The assembler (R130, spec/95 section 2.3) -/

theorem test_assemble : assemble (.wfield 1 (-50)) = some 0xFFCE0107 ∧ assemble (.encode 108 3) = some 0x00036C01 ∧
    assemble (.flush true true) = some 0x00000303 ∧ assemble (.setcfg .rsp .request) = some 0x00000106 := by decide

theorem test_assembleText :
    assembleText "ENCODE MSP_ATTITUDE, 0   ; TXQ".toList = some 0x00006C01 ∧
    assembleText "WFIELD 1, -50".toList = some 0xFFCE0107 ∧
    assembleText "FLUSH rx+tx".toList = some 0x00000303 ∧
    assembleText "SETCFG accept=req, encdir=rsp".toList = some 0x00000606 ∧
    assembleText ".word 0xF009".toList = some 0x0000F009 ∧
    assembleText "RFIELD 127".toList = none := by decide +kernel

/-! ## Witnesses: states and operands that meet the hypotheses of the statements, at the ends of their ranges -/

theorem witness_EncodedInstructionsDecode : Instr.wellFormed (.encode 0xFF 0xFF) = true ∧
    Instr.wellFormed (.wfield 126 0xFFFF) = true ∧ Instr.wellFormed (.wfield 0 0x0000) = true ∧
    Instr.wellFormed (.rfield 126) = true ∧ Instr.wellFormed (.setcfg 2 .response) = true ∧
    Instr.wellFormed (.mspReboot .response []) = true ∧
    Instr.wellFormed (.mspReboot .request (List.replicate 255 0xFF)) = true := by decide +kernel

theorem witness_LegalWordsReencode : decodeCommand 0xFFFF7E07 = .ok (.wfield 126 0xFFFF) := by decide

theorem witness_DecodedFramesReencode :
    decodeFrame [0x24, 0x4D, 0x3E, 0x01, 0xFE, 0x05, 0xFA] = .ok (.mspDebug .response [0x05]) := by decide

theorem witness_IllegalWordsOnlySetTheFault :
    Claim.IllegalWord 0x0000000B ∧ Claim.IllegalWord 0x0000000F ∧ Claim.IllegalWord 0x80000000 ∧
    Claim.IllegalWord 0x00007F07 ∧ Claim.IllegalWord 0x00007F08 ∧ Claim.IllegalWord 0x00000306 ∧
    (start [.host 0x0000000B]).events = [.host 0x0000000B] ∧ (start [.host 0x0000000B]).resultPort = none := by
  unfold Claim.IllegalWord Claim.reservedBits
  decide

theorem witness_AssembledLinesDecode : (255 ≤ 255 ∧ 0 ≤ 255) ∧ (126 ≤ 126 ∧ (-32768 : Int) ≤ -32768 ∧ (-32768 : Int) ≤ 65535) ∧
    (0 ≤ 126 ∧ (-32768 : Int) ≤ 65535 ∧ (65535 : Int) ≤ 65535) := by decide

theorem witness_AssemblerRefusesOutOfRange : 255 < 256 ∧ (126 < 127 ∧ (-32769 : Int) < -32768 ∧ (65535 : Int) < 65536) := by
  decide

theorem witness_StepRunsIssuedCommand :
    ((start [.host 0x00000009]).events = [.host 0x00000009] ∧ decodeCommand 0x00000009 = .ok .rstatus) ∧
    ((start [.host 0x0000000F]).events = [.host 0x0000000F] ∧ decodeCommand 0x0000000F = .error .reservedOp) := by decide

theorem witness_StepRunsReceivedFrame : (attitude 0x30).events = [.decoder] ∧ (attitude 0x30).phase = .chk ∧
    (attitude 0x30).rxq = [.byte 0x30] ∧ 0x30 = (attitude 0x30).decCsum ∧
    decode (.frame (wireFrame (attitude 0x30).decDir (attitude 0x30).decCode (attitude 0x30).decPayload)) =
      .ok (.mspAttitude .response [0x64, 0x00, 0xCE, 0xFF, 0x0E, 0x01]) := by decide

theorem witness_ScheduleConventions : (start []).events = [] := rfl

/-- One of R112's reserved bits for each opcode, by itself: the hypotheses of `Claim.ReservedBitsFault`. -/
theorem witness_ReservedBitsFault :
    ∀ op ∈ [0, 1, 2, 3, 4, 5, 6, 7, 8, 9, 10], (BitVec.ofNat 32 (op + 16)).toNat % 16 = op ∧
      BitVec.ofNat 32 (op + 16) &&& Claim.reservedBits op ≠ 0 := by decide

/-- A state whose next event is the illegal word 0x00000015: the hypothesis of `Claim.OnlyFaults`. -/
theorem witness_OnlyFaults : (armed .len [] [.host 0x00000015, .decoder]).events = .host 0x00000015 :: [.decoder] ∧
    (armed .len [] [.host 0x00000015, .decoder]).resultPort = none := by decide

/-- A busy and an idle block, and N at the ends of its two ranges. -/
theorem witness_EncodeQueuesFrameOrRefuses : (armed .hunt [] []).phase ≠ .idle ∧
    ((start []).phase = .idle ∧ 127 < (128 : Byte).toNat ∧ 127 < (255 : Byte).toNat) ∧
    ((start []).phase = .idle ∧ (127 : Byte).toNat ≤ 127 ∧ (0 : Byte).toNat ≤ 127) := by decide

theorem witness_FrameBytesInPlace : (List.replicate 127 (0xABCD : Half)).length ≤ 127 ∧
    126 < (List.replicate 127 (0xABCD : Half)).length := by decide +kernel

/-- Busy and idle, for DECODE, FLUSH, ABORT, SETCFG and the table of R305. -/
theorem witness_busy_and_idle : (armed .hunt [] []).phase ≠ .idle ∧ (armed .chk [] []).phase ≠ .idle ∧
    (start []).phase = .idle := by decide

theorem witness_SetcfgWritesConfiguration : (0x00000306 : Word).toNat % 16 = 6 ∧ (0x00000306 : Word).toNat / 256 % 4 = 3 := by
  decide

theorem witness_WfieldWritesOneEntry : ((0x00007F07 : Word).toNat % 16 = 7 ∧ (0x00007F07 : Word).toNat / 256 % 128 = 127) ∧
    (126 : BitVec 7) ≠ 127 ∧ (0 : BitVec 7) ≠ 127 ∧ 126 < 127 := by decide

theorem witness_RfieldReturnsCommittedEntry : ((0x00007F08 : Word).toNat % 16 = 8 ∧ (0x00007F08 : Word).toNat / 256 % 128 = 127) ∧
    (126 : BitVec 7).toNat < 127 ∧ (0 : BitVec 7).toNat < 127 := by decide

theorem witness_BusyRefusesFourCommands : (armed .payload [] []).phase ≠ .idle ∧ (2 : BitVec 2) ≠ 3 ∧ (126 : BitVec 7) ≠ 127 := by
  decide

/-- spec/95 section 2.7: ENCODE with bit 24 set while BUSY, and ENCODE of 200 fields while BUSY. -/
theorem witness_ChecksRunInOrder : (armed .hunt [] [.host 0x01006C01]).phase ≠ .idle ∧
    (armed .hunt [] [.host 0x01006C01]).events = [.host 0x01006C01] ∧ Claim.IllegalWord 0x01006C01 ∧
    (armed .hunt [] [.host 0x00C86C01]).events = [.host 0x00C86C01] ∧
    (0x00C86C01 : Word) = (0xC8 : Byte).setWidth 32 <<< 16 ||| (0x6C : Byte).setWidth 32 <<< 8 ||| 0x1 := by
  unfold Claim.IllegalWord Claim.reservedBits
  decide

/-- The shortest and the longest payload of a frame row: the hypothesis of `Claim.FrameCompletes`. -/
theorem witness_FrameCompletes : ([] : List Byte).length ≤ 255 ∧ (List.replicate 255 (0xFF : Byte)).length ≤ 255 := by
  decide +kernel

theorem witness_EmptyRequestFrames : (start []).phase = .idle ∧ (start []).cfgEncdir = .request := by decide

theorem witness_HuntRulesOnAByte :
    ((armed .hunt (items [0x24]) [.decoder]).phase = .hunt ∧ (armed .hunt (items [0x24]) [.decoder]).events = [.decoder] ∧
      (armed .hunt (items [0x24]) [.decoder]).rxq = [.byte 0x24]) ∧
    (armed .gotS (items [0x4D]) [.decoder]).phase = .gotS ∧
    ((armed .gotM (items [0x3C]) [.decoder]).phase = .gotM ∧ Claim.Admits .any 0x3C ∧ Claim.Admits .any 0x3E ∧
      Claim.Admits .rsp 0x3E ∧ Claim.Admits .req 0x3C) ∧
    (¬ Claim.Admits .any 0x24 ∧ ¬ Claim.Admits .rsp 0x3C ∧ ¬ Claim.Admits .req 0x3E) := by
  unfold Claim.Admits
  decide

theorem witness_HeaderRulesOnAByte :
    ((armed .len (items [0xFF]) [.decoder]).phase = .len ∧ (armed .len (items [0xFF]) [.decoder]).events = [.decoder] ∧
      (armed .len (items [0xFF]) [.decoder]).rxq = [.byte 0xFF]) ∧
    ((armed .code (items [0x6C]) [.decoder]).phase = .code ∧ (armed .code (items [0x6C]) [.decoder]).decLen = 0x00) := by
  decide

/-- The last byte of a 2-byte payload, and the last offset of DEC_BUF. -/
theorem witness_PayloadRuleOnAByte :
    ((inPayload (items [0x04]) [.decoder]).events = [.decoder] ∧ (inPayload (items [0x04]) [.decoder]).rxq = [.byte 0x04] ∧
      (inPayload (items [0x04]) [.decoder]).phase = .payload ∧ (inPayload (items [0x04]) [.decoder]).decBuf.wf = true ∧
      (inPayload (items [0x04]) [.decoder]).decCnt.toNat < 255) ∧
    (254 : Byte).toNat < 255 := by decide

theorem witness_CheckByteCommitsOrRejects : (attitude 0x31).events = [.decoder] ∧ (attitude 0x31).rxq = [.byte 0x31] ∧
    (attitude 0x31).phase = .chk ∧ 0x31 ≠ (attitude 0x31).decCsum ∧ (attitude 0x30).rxq = [.byte 0x30] ∧
    0x30 = (attitude 0x30).decCsum := by decide

theorem witness_UnknownCodesCommitRaw : rawFrame.events = [.decoder] ∧ rawFrame.phase = .chk ∧
    rawFrame.rxq = [.byte rawFrame.decCsum] ∧ inCatalog rawFrame.decCode = false ∧ inCatalog 0xFF = false ∧
    (start []).phase = .idle ∧ (127 : Byte).toNat ≤ 127 := by decide

theorem witness_EndOfStreamEndsDecode :
    ((armed .hunt [.eos] [.decoder]).events = [.decoder] ∧ (armed .hunt [.eos] [.decoder]).rxq = [.eos] ∧
      (armed .hunt [.eos] [.decoder]).phase = .hunt) ∧
    ((armed .chk [.eos] [.decoder]).rxq = [.eos] ∧ (armed .chk [.eos] [.decoder]).phase = .chk) := by decide

theorem witness_DecoderWaitsWithoutAStep :
    ((armed .idle (items [0x24]) [.decoder]).events = [.decoder] ∧ (armed .idle (items [0x24]) [.decoder]).phase = .idle) ∧
    ((armed .hunt [] [.decoder]).events = [.decoder] ∧ (armed .hunt [] [.decoder]).rxq = []) := by decide

theorem witness_StreamErrorAbandonsDecode : (start [.streamError]).events = [.streamError] := by decide

theorem witness_TransportMovesQueueEnds : (start [.receive .eos]).events = [.receive .eos] ∧
    ({ start [.send] with txq := [0x24] } : State).events = [.send] ∧
    ({ start [.send] with txq := [0x24] } : State).txq = [0x24] := by decide

/-- Two bytes hold no marker. -/
theorem noMarker_short (a : AcceptMode) (bs : List Byte) (h : bs.length < 3) : Claim.NoMarker a bs := by
  intro u x v e
  have := congrArg List.length e
  simp only [List.length_append, List.length_cons, List.length_nil] at this
  omega

theorem witness_HuntFindsEarliestMarker :
    ((armed .hunt (items [0x24, 0x24]) [.decoder, .decoder]).phase = .hunt ∧
      (armed .hunt (items [0x24, 0x24]) [.decoder, .decoder]).rxq = [0x24, 0x24].map .byte ++ [] ∧
      (armed .hunt (items [0x24, 0x24]) [.decoder, .decoder]).events = List.replicate [0x24, 0x24].length .decoder ++ [] ∧
      Claim.NoMarker .any [0x24, 0x24]) ∧
    ([0x24, 0x4D, 0x3C] = ([] : List Byte) ++ [0x24, 0x4D, 0x3C] ∧ Claim.Admits .any 0x3C ∧
      Claim.NoEarlierMarker .any [0x24, 0x4D, 0x3C]) := by
  refine ⟨⟨rfl, rfl, rfl, noMarker_short _ _ (by decide)⟩, rfl, .inl ⟨rfl, .inl rfl⟩, ?_⟩
  intro u x v e _
  have := congrArg List.length e
  simp only [List.length_append, List.length_cons, List.length_nil] at this
  exact List.length_eq_zero_iff.1 (by omega)

/-- DECODE and the attitude request, with a right and with a wrong checksum byte. -/
theorem witness_WholeFrameCommitsOrRejects :
    (start []).phase = .idle ∧ (start []).decBuf.wf = true ∧ Claim.Admits .any 0x3C ∧ ([] : List Byte).length ≤ 255 ∧
    (armed .idle (items [0x24, 0x4D, 0x3C, 0x00, 0x6C, 0x6C]) (.host 0x00000002 :: List.replicate 6 .decoder)).rxq =
      ([0x24, 0x4D, 0x3C, BitVec.ofNat 8 ([] : List Byte).length, 0x6C] ++ [] ++ [0x6C]).map .byte ++ [] ∧
    (armed .idle (items [0x24, 0x4D, 0x3C, 0x00, 0x6C, 0x6C]) (.host 0x00000002 :: List.replicate 6 .decoder)).events =
      .host 0x00000002 :: (List.replicate (6 + ([] : List Byte).length) .decoder ++ []) ∧
    0x6C = Claim.xorAll [0x00, 0x6C] ∧ 0x6D ≠ Claim.xorAll [0x00, 0x6C] :=
  ⟨rfl, rfl, .inl ⟨rfl, .inl rfl⟩, by decide, rfl, rfl, by decide, by decide⟩

/-- Two blocks: one sends N = 0, the other has received those bytes. -/
theorem witness_EncodeThenDecodeRoundTrip :
    (start []).phase = .idle ∧ (0 : Byte).toNat ≤ 127 ∧ (127 : Byte).toNat ≤ 127 ∧
    (after (exec (.encode 0x6C 0) (start []))).txq = (start []).txq ++ [0x24, 0x4D, 0x3C, 0x00, 0x6C, 0x6C] ∧
    (start []).decBuf.wf = true ∧ Claim.Admits .any 0x3C ∧
    (armed .idle (items [0x24, 0x4D, 0x3C, 0x00, 0x6C, 0x6C]) (.host 0x00000002 :: List.replicate 6 .decoder)).events =
      .host 0x00000002 :: (List.replicate (6 + 2 * (0 : Byte).toNat) .decoder ++ []) :=
  ⟨rfl, by decide, by decide, by decide, rfl, .inl ⟨rfl, .inl rfl⟩, rfl⟩

/-- spec/95 section 1.3: the code byte of `24 4D 3C 00 6C 6C` with bit 7 flipped. -/
theorem witness_FlippedBitIsDetected :
    ([] : List Half).length ≤ 127 ∧ (start []).phase = .idle ∧ (start []).decBuf.wf = true ∧ Claim.Admits .any 0x3C ∧
    4 ≤ 4 ∧ 4 < 5 + 2 * ([] : List Half).length ∧ 7 < 8 ∧
    (armed .idle (items [0x24, 0x4D, 0x3C, 0x00, 0xEC, 0x6C]) (.host 0x00000002 :: List.replicate 6 .decoder)).rxq =
      ((frameOfFields 0x3C 0x6C []).set 4 ((frameOfFields 0x3C 0x6C []).getD 4 0 ^^^ (0x01 <<< 7))).map .byte ++ [] ∧
    (armed .idle (items [0x24, 0x4D, 0x3C, 0x00, 0xEC, 0x6C]) (.host 0x00000002 :: List.replicate 6 .decoder)).events =
      .host 0x00000002 :: (List.replicate (6 + 2 * ([] : List Half).length) .decoder ++ []) :=
  ⟨by decide, rfl, rfl, .inl ⟨rfl, .inl rfl⟩, by decide, by decide, by decide, by decide, rfl⟩

theorem witness_GarbageBeforeFrameIsSkipped :
    (start []).phase = .idle ∧ (start []).decBuf.wf = true ∧ Claim.Admits .any 0x3C ∧ ([] : List Half).length ≤ 127 ∧
    Claim.NoMarker .any [0x00, 0x24] ∧
    (armed .idle (items [0x00, 0x24, 0x24, 0x4D, 0x3C, 0x00, 0x6C, 0x6C])
      (.host 0x00000002 :: List.replicate 8 .decoder)).rxq =
      ([0x00, 0x24] ++ frameOfFields 0x3C 0x6C []).map .byte ++ [] ∧
    (armed .idle (items [0x00, 0x24, 0x24, 0x4D, 0x3C, 0x00, 0x6C, 0x6C])
      (.host 0x00000002 :: List.replicate 8 .decoder)).events =
      .host 0x00000002 :: (List.replicate (([0x00, 0x24] : List Byte).length + (6 + 2 * ([] : List Half).length)) .decoder ++ []) :=
  ⟨rfl, rfl, .inl ⟨rfl, .inl rfl⟩, by decide, noMarker_short _ _ (by decide), by decide, rfl⟩

/-- A coherent state in the middle of a payload. -/
theorem coherent_inPayload (q : List RxItem) (evs : List Event) : Coherent (inPayload q evs) where
  buffer := by change cellsWf 0 [(0, 0xD2)] = true; decide
  count := by change (1 : Byte).toNat ≤ (2 : Byte).toNat; decide
  direction := fun _ => .inr rfl
  codePhase := fun h => by cases h
  payloadPhase := fun _ => ⟨by change (1 : Byte).toNat < (2 : Byte).toNat; decide, by
    change (0xBD : Byte) = checksum 2 0x6D ((⟨[(0, 0xD2)]⟩ : Memory).firstBytes 1); decide⟩
  chkPhase := fun h => by cases h
  resultDir := .inl rfl
  resultOdd := rfl
  resultTail := fun _ => rfl
  resultFields := fun i h _ => by
    change (Vector.replicate 127 (0x0000 : Half))[i] = 0x0000
    simp
  resultFlags := fun h => absurd rfl h
  beforeCommit := fun _ => ⟨rfl, rfl, rfl, rfl⟩

theorem witness_EveryStepKeepsCoherence : Coherent (inPayload (items [0x04]) [.decoder]) ∧
    goesOn (step (inPayload (items [0x04]) [.decoder])) = true := ⟨coherent_inPayload _ _, by decide⟩

theorem witness_CoherentStatesAlwaysStep : Coherent (inPayload [.eos] [.decoder]) := coherent_inPayload _ _

/-- A step from a state with both fault bits set, one that sets F_ILLEGAL and one that sets F_REENTRY. -/
theorem witness_FaultBitsStickUntilReset :
    (step { start [.streamError] with fIllegal := true, fReentry := true } =
      .next { State.reset with fIllegal := true, fReentry := true, err := .streamUnavailable }) ∧
    (step (start [.host 0x0000000F]) = .next { State.reset with fIllegal := true }) ∧
    (step (armed .hunt [] [.host 0x00000002]) = .next { State.reset with phase := .hunt, fReentry := true }) :=
  ⟨rfl, rfl, rfl⟩

/-- The hypothesis `step s = .next t` of the whole-machine rules, on a commit, a reset and a queue step. -/
theorem witness_step_answers_next : goesOn (step (attitude 0x30)) = true ∧ goesOn (step (start [.host 0x00000005])) = true ∧
    goesOn (step (start [.receive .eos])) = true := by decide

theorem witness_ArmedDecoderTakesOneItem : Coherent (inPayload [.eos] [.decoder]) ∧
    (inPayload [.eos] [.decoder]).phase ≠ .idle ∧ (inPayload [.eos] [.decoder]).events = [.decoder] ∧
    (inPayload [.eos] [.decoder]).rxq = [.eos] := ⟨coherent_inPayload _ _, by decide, rfl, rfl⟩

theorem witness_CycleOrderIsTheRanking : (0x00000009 : Word) ≠ 0x00000005 := by decide

theorem witness_SendQueuesTheFieldFrame :
    sendCommands 0x6D [0x04D2] = some [.wfield 0 0x04D2, .encode 0x6D 1] ∧
    (sendCommands 0x6D (List.replicate 127 0)).isSome = true ∧ (start []).phase = .idle ∧
    (start [.host 0x04D20007, .host 0x00016D01]).events = issueAll [.wfield 0 0x04D2, .encode 0x6D 1] ++ [] :=
  ⟨by decide, by decide +kernel, rfl, rfl⟩

end Sys2Proof.Tests
end

section
/-! PROOF. The result registers and frame flags over one step (R42): every effect of a step keeps them, except RESET's word
and the commit of the decoder. -/

namespace Sys2Proof

/-- A word of format CN that is taken is its opcode alone (R112). -/
theorem noOperands_eq_ok {w : Word} {i j : Instr} (h : noOperands w i = .ok j) : i = j ∧ w = wordCN (opField w) := by
  unfold noOperands at h
  split at h
  · rename_i hz
    obtain ⟨hoperands, hlow⟩ := hz
    refine ⟨Except.ok.inj h, ?_⟩
    conv_lhs => rw [word_eq_fields w, hoperands, hlow]
    rfl
  · cases h

/-- Only the word 5 is a RESET (R112, R264). -/
theorem eq_five_of_decodeCommand_reset {w : Word} (h : decodeCommand w = .ok .reset) : w = 0x00000005 := by
  unfold decodeCommand at h
  split at h
  -- the branches of `decodeCommand` in the order of OP: branch 6 is OP = 0x5, the other CN formats name other commands
  case h_6 hop =>
    obtain ⟨-, hw⟩ := noOperands_eq_ok h
    have hfive : opField w = 0x5 := BitVec.eq_of_toNat_eq hop
    rw [hw, hfive]
    rfl
  case h_1 | h_3 | h_5 | h_10 | h_11 => cases (noOperands_eq_ok h).1
  all_goals (repeat' split at h) <;> cases h

end Sys2Proof

namespace Sys2Proof.Machine

/-- A commit leaves the results of its frame, field by field (R171). -/
theorem State.acceptFrame_committed (s : State) (dir code : Byte) (payload : List Byte) :
    Claim.Committed (s.acceptFrame dir code payload) dir code payload :=
  ⟨committedFields_getElem payload, rfl, rfl, rfl, rfl, rfl, rfl, rfl⟩

/-- Phase HUNT keeps the results. -/
theorem huntByte_sameResults (b : Byte) (s : State) : Claim.SameResults s (huntByte b s) := by
  unfold huntByte
  split <;> simp [Claim.SameResults]

/-- Phase GOT_S keeps the results. -/
theorem gotSByte_sameResults (b : Byte) (s : State) : Claim.SameResults s (gotSByte b s) := by
  unfold gotSByte
  split
  · simp [Claim.SameResults]
  · split <;> simp [Claim.SameResults]

/-- Phase GOT_M keeps the results. -/
theorem gotMByte_sameResults (b : Byte) (s : State) : Claim.SameResults s (gotMByte b s) := by
  unfold gotMByte
  split
  · simp [Claim.SameResults]
  · split <;> simp [Claim.SameResults]

/-- An instruction keeps the results unless it is RESET or a frame row (R42). -/
theorem ExecEffect.results {s t : State} {i : Instr} (h : ExecEffect s i t) :
    Claim.SameResults s t ∨ (i = .reset ∧ Claim.SameResults State.reset t) ∨
      ∃ code dir payload, frameInstr code dir payload = some i := by
  cases h with
  | reset => exact .inr (.inl ⟨rfl, by simp [Claim.SameResults]⟩)
  | frame _ dir code payload hf => exact .inr (.inr ⟨code, dir, payload, hf⟩)
  | _ => exact .inl (by simp [Claim.SameResults])

/-- Settles O52, by cases on what the step can do: a command keeps the results unless it is RESET, and of the decoder's rules
only the commit in phase CHK writes them. -/
theorem resultsChangeOnlyByCommitOrReset : Obligations.ResultsChangeOnlyByCommitOrReset := by
  unfold Obligations.ResultsChangeOnlyByCommitOrReset
  intro s t hstep
  cases step_cases hstep with
  | command w rest i t he hd hx =>
    rcases hx.results with hsame | ⟨rfl, hreset⟩ | ⟨code, dir, payload, hf⟩
    · exact .inl hsame
    · rw [eq_five_of_decodeCommand_reset hd] at he
      exact .inr (.inl ⟨rest, he, hreset⟩)
    · exact absurd hf (decodeCommand_not_frame hd code dir payload)
  | commit rest q he hq hp =>
    exact .inr (.inr ⟨rest, q, he, hp, hq, State.acceptFrame_committed _ _ _ _⟩)
  | hunt rest q b => exact .inl (huntByte_sameResults b { s with events := rest, rxq := q })
  | gotS rest q b => exact .inl (gotSByte_sameResults b { s with events := rest, rxq := q })
  | gotM rest q b => exact .inl (gotMByte_sameResults b { s with events := rest, rxq := q })
  | len | code => exact .inl (by simp [Claim.SameResults, lenByte, codeByte])
  | _ => exact .inl (by simp [Claim.SameResults])

end Sys2Proof.Machine
end

section
/-! PROOF. The two encodings against their decoders (R100 to R130): every instruction decodes back from its encoding, what the
decoders take is encoded to the bits it came from, the illegal words are those of R121, and the assembler's words decode
to the commands they are written for. -/

namespace Sys2Proof

/-! ## Command words: decoded from their fields, and put together again from them (R112, R113) -/

/-- Format CE carries every operand of ENCODE (R112). -/
theorem decodeCommand_wordCE (code n : Byte) : decodeCommand (wordCE code n) = .ok (.encode code n) := by
  obtain ⟨hop, hlow, hhigh, hcode, hn⟩ := fields_wordCE code n
  simp [decodeCommand, hop, hlow, hhigh, hcode, hn]

/-- Format CF carries every operand of FLUSH (R112). -/
theorem decodeCommand_wordCF (tx rx : Bool) : decodeCommand (wordCF tx rx) = .ok (.flush tx rx) := by
  obtain ⟨hop, hlow, hhigh, htx, hrx⟩ := fields_wordCF tx rx
  simp [decodeCommand, hop, hlow, hhigh, htx, hrx]

/-- Format CS carries every operand of SETCFG (R112). -/
theorem decodeCommand_wordCS {accept : BitVec 2} (h : acceptOk accept = true) (encdir : Direction) :
    decodeCommand (wordCS accept encdir) = .ok (.setcfg accept encdir) := by
  obtain ⟨hop, hlow, hhigh, haccept, hdir⟩ := fields_wordCS accept encdir
  simp [decodeCommand, hop, hlow, hhigh, haccept, hdir, h]

/-- Format CW carries every operand of WFIELD (R112). -/
theorem decodeCommand_wordCW {idx : BitVec 7} (h : fieldIndexOk idx = true) (value : Half) :
    decodeCommand (wordCW idx value) = .ok (.wfield idx value) := by
  obtain ⟨hop, hlow, hbit, hidx, hvalue⟩ := fields_wordCW idx value
  simp [decodeCommand, hop, hlow, hbit, hidx, hvalue, h]

/-- Format CR carries every operand of RFIELD (R112). -/
theorem decodeCommand_wordCR {idx : BitVec 7} (h : fieldIndexOk idx = true) :
    decodeCommand (wordCR idx) = .ok (.rfield idx) := by
  obtain ⟨hop, hlow, hbit, hidx, hvalue⟩ := fields_wordCR idx
  simp [decodeCommand, hop, hlow, hbit, hidx, hvalue, h]

/-- With its reserved bits 0, ENCODE's word is its operands (R112). -/
theorem wordCE_of_fields {w : Word} (hop : opField w = 1) (hhigh : ceReserved w = 0) (hlow : lowReserved w = 0) :
    wordCE (codeField w) (countField w) = w := by
  conv_rhs => rw [word_eq_fields w, operandField_CE, hhigh, hlow, hop]
  rfl

/-- With its reserved bits 0, FLUSH's word is its operands (R112). -/
theorem wordCF_of_fields {w : Word} (hop : opField w = 3) (hhigh : cfReserved w = 0) (hlow : lowReserved w = 0) :
    wordCF (txField w) (rxField w) = w := by
  conv_rhs => rw [word_eq_fields w, operandField_CF, hhigh, hlow, hop]
  rfl

/-- With its reserved bits 0, SETCFG's word is its operands (R112). -/
theorem wordCS_of_fields {w : Word} (hop : opField w = 6) (hhigh : csReserved w = 0) (hlow : lowReserved w = 0) :
    wordCS (acceptField w) (directionOfBit (encdirField w)) = w := by
  conv_rhs => rw [word_eq_fields w, operandField_CS, hhigh, hlow, hop]
  rw [wordCS, directionBit_directionOfBit]
  rfl

/-- With its reserved bits 0, WFIELD's word is its operands (R112). -/
theorem wordCW_of_fields {w : Word} (hop : opField w = 7) (hbit : idxReserved w = false) (hlow : lowReserved w = 0) :
    wordCW (idxField w) (valueField w) = w := by
  conv_rhs => rw [word_eq_fields w, operandField_CW, hbit, hlow, hop]
  rfl

/-- With its reserved bits 0, RFIELD's word is its operands (R112). -/
theorem wordCR_of_fields {w : Word} (hop : opField w = 8) (hhigh : valueField w = 0) (hbit : idxReserved w = false)
    (hlow : lowReserved w = 0) : wordCR (idxField w) = w := by
  conv_rhs => rw [word_eq_fields w, operandField_CW, hhigh, hbit, hlow, hop]
  rfl

/-- A check of the decoder that is passed. -/
theorem ite_error_eq_ok {α : Type} {c : Prop} [Decidable c] {e : Except Reject α} {r : Reject} {a : α} :
    (if c then e else .error r) = .ok a ↔ c ∧ e = .ok a := by
  split <;> simp [*]

/-- A check of the decoder refuses where it fails, and otherwise where what follows it refuses. -/
theorem exists_ite_error {α : Type} {c : Prop} [Decidable c] {e : Except Reject α} {r : Reject} :
    (∃ r', (if c then e else .error r) = .error r') ↔ ¬ c ∨ ∃ r', e = .error r' := by
  split <;> simp [*]

/-- What a format-CN branch of the decoder takes is a word of its opcode alone. -/
theorem encode_of_noOperands {w : Word} {n : Nat} {i j : Instr} (hop : (opField w).toNat = n)
    (henc : encode i = .command (wordCN (BitVec.ofNat 4 n))) (hwf : i.wellFormed = true) (h : noOperands w i = .ok j) :
    j.wellFormed = true ∧ encode j = .command w := by
  obtain ⟨rfl, hw⟩ := noOperands_eq_ok h
  rw [← hop, BitVec.ofNat_toNat, BitVec.setWidth_eq] at henc
  exact ⟨hwf, by rw [henc, ← hw]⟩

/-- Settles O2, branch by branch of the decoder: the reserved fields it checks are 0, so the word is its operands. -/
theorem legalWordsReencode : Obligations.LegalWordsReencode := by
  unfold Obligations.LegalWordsReencode
  intro w i h
  unfold decodeCommand at h
  -- branch `k + 1` is OP = `k`
  split at h
  case h_1 hop | h_3 hop | h_5 hop | h_6 hop | h_10 hop | h_11 hop => exact encode_of_noOperands hop rfl rfl h
  case h_2 hop =>
    obtain ⟨⟨hhigh, hlow⟩, ⟨⟩⟩ := ite_error_eq_ok.1 h
    exact ⟨rfl, congrArg _ (wordCE_of_fields (BitVec.eq_of_toNat_eq hop) hhigh hlow)⟩
  case h_4 hop =>
    obtain ⟨⟨hhigh, hlow⟩, ⟨⟩⟩ := ite_error_eq_ok.1 h
    exact ⟨rfl, congrArg _ (wordCF_of_fields (BitVec.eq_of_toNat_eq hop) hhigh hlow)⟩
  case h_7 hop =>
    obtain ⟨⟨hhigh, hlow⟩, hlast⟩ := ite_error_eq_ok.1 h
    obtain ⟨haccept, ⟨⟩⟩ := ite_error_eq_ok.1 hlast
    exact ⟨haccept, congrArg _ (wordCS_of_fields (BitVec.eq_of_toNat_eq hop) hhigh hlow)⟩
  case h_8 hop =>
    obtain ⟨⟨hbit, hlow⟩, hlast⟩ := ite_error_eq_ok.1 h
    obtain ⟨hidx, ⟨⟩⟩ := ite_error_eq_ok.1 hlast
    exact ⟨hidx, congrArg _ (wordCW_of_fields (BitVec.eq_of_toNat_eq hop) hbit hlow)⟩
  case h_9 hop =>
    obtain ⟨⟨hhigh, hbit, hlow⟩, hlast⟩ := ite_error_eq_ok.1 h
    obtain ⟨hidx, ⟨⟩⟩ := ite_error_eq_ok.1 hlast
    exact ⟨hidx, congrArg _ (wordCR_of_fields (BitVec.eq_of_toNat_eq hop) hhigh hbit hlow)⟩
  case h_12 => cases h

/-! ## Frames: the row of a code, and the parser's inverse -/

/-- A well-formed payload fits the length byte (R100). -/
theorem length_le_of_payloadOk {payload : List Byte} (h : payloadOk payload = true) : payload.length ≤ 255 :=
  of_decide_eq_true h

/-- The row that stands for a code is encoded as the frame with that code, and its payload is all that can be ill formed
(R210 to R251). -/
theorem encode_frameInstr {code : Byte} {dir : Direction} {payload : List Byte} {i : Instr}
    (h : frameInstr code dir payload = some i) :
    encode i = .frame (wireFrame (directionByte dir) code payload) ∧ i.wellFormed = payloadOk payload := by
  have hc : code = BitVec.ofNat 8 code.toNat := by simp
  unfold frameInstr at h
  split at h
  case h_43 => cases h -- a code outside the catalog has no row
  all_goals
    rename_i hcode
    cases h
    rw [hcode] at hc
    rw [hc]
    exact ⟨rfl, rfl⟩

/-- Where a list is long enough that something stands behind its first `n` elements, it is these, that, and the rest. -/
theorem take_of_drop_eq_cons {α : Type} {l tail : List α} {x : α} {n : Nat} (h : l.drop n = x :: tail) :
    (l.take n).length = n ∧ l = l.take n ++ x :: tail := by
  have hlength : l.length - n = tail.length + 1 := by simpa using congrArg List.length h
  exact ⟨List.length_take_of_le (by omega), by rw [← h, List.take_append_drop]⟩

/-- What the parser takes is one wire frame with the bytes left over behind it (R100, R101, R103). -/
theorem eq_wireFrame_of_parseFrame {bytes after : List Byte} {f : ParsedFrame}
    (h : parseFrame bytes = .ok (f, after)) :
    f.payload.length ≤ 255 ∧ bytes = wireFrame (directionByte f.dir) f.code f.payload ++ after := by
  unfold parseFrame at h
  split at h
  case h_2 => cases h
  case h_1 b0 b1 b2 len code rest =>
    obtain ⟨⟨rfl, rfl⟩, hparts⟩ := ite_error_eq_ok.1 h
    split at hparts
    case h_1 => cases hparts
    case h_2 dir hdir =>
      split at hparts
      case h_1 => cases hparts
      case h_2 k tail hdrop =>
        obtain ⟨rfl, ⟨⟩⟩ := ite_error_eq_ok.1 hparts
        obtain ⟨hlen, hrest⟩ := take_of_drop_eq_cons hdrop
        have hbyte : BitVec.ofNat 8 (rest.take len.toNat).length = len := by simp [hlen]
        refine ⟨hlen.trans_le (by omega), ?_⟩
        simp only [wireFrame_eq, hbyte, directionByte_of_directionOfByte hdir, List.cons_append, List.append_assoc,
          List.nil_append, ← hrest]

/-- What the frame decoder takes is a whole frame and the row of its code. -/
theorem parseFrame_of_decodeFrame {bytes : List Byte} {i : Instr} (h : decodeFrame bytes = .ok i) :
    ∃ f, parseFrame bytes = .ok (f, []) ∧ frameInstr f.code f.dir f.payload = some i := by
  unfold decodeFrame at h
  split at h
  case h_1 => cases h
  case h_2 => cases h
  case h_3 f hparse =>
    split at h
    case h_1 hrow =>
      cases h
      exact ⟨f, hparse, hrow⟩
    case h_2 => cases h

/-- A well-formed frame row decodes back from its frame: the parser gives the parts, and the code picks the row. -/
theorem decode_encode_frameRow {i : Instr} {dir : Direction} {code : Byte} {payload : List Byte}
    (henc : encode i = .frame (wireFrame (directionByte dir) code payload))
    (hrow : frameInstr code dir payload = some i) (hp : payloadOk payload = true) : decode (encode i) = .ok i := by
  have hparse := parseFrame_wireFrame dir code payload [] (length_le_of_payloadOk hp)
  rw [List.append_nil] at hparse
  simp only [henc, decode, decodeFrame, hparse, hrow]

/-- Settles O1, by cases on the instruction: a command by the fields of its format, the 42 frame rows by one lemma. -/
theorem encodedInstructionsDecode : Obligations.EncodedInstructionsDecode := by
  unfold Obligations.EncodedInstructionsDecode
  intro i hwf
  cases i with
  | nop | decode | abort | reset | rstatus | rinfo => rfl
  | encode code n => exact decodeCommand_wordCE code n
  | flush tx rx => exact decodeCommand_wordCF tx rx
  | setcfg accept encdir => exact decodeCommand_wordCS hwf encdir
  | wfield idx value => exact decodeCommand_wordCW hwf value
  | rfield idx => exact decodeCommand_wordCR hwf
  | _ => exact decode_encode_frameRow rfl rfl hwf

/-- Settles O3: the bytes are the parsed frame's, and the row of its code is encoded as that frame. -/
theorem decodedFramesReencode : Obligations.DecodedFramesReencode := by
  unfold Obligations.DecodedFramesReencode
  intro bs i h
  obtain ⟨f, hparse, hrow⟩ := parseFrame_of_decodeFrame h
  obtain ⟨hlen, hbytes⟩ := eq_wireFrame_of_parseFrame hparse
  obtain ⟨henc, hwf⟩ := encode_frameInstr hrow
  rw [List.append_nil] at hbytes
  exact ⟨hwf.trans (decide_eq_true hlen), by rw [henc, hbytes]⟩

/-! ## Illegal words (R121) -/

/-- A concatenation is 0 exactly when both parts are. -/
theorem append_eq_zero {m n : Nat} {a : BitVec m} {b : BitVec n} : a ++ b = 0 ↔ a = 0 ∧ b = 0 := by
  simp only [← BitVec.toNat_inj, toNat_append_eq]
  simp

/-- A mask is applied field by field. -/
theorem append_and_append_eq_zero {m n : Nat} {a c : BitVec m} {b d : BitVec n} :
    (a ++ b) &&& (c ++ d) = 0 ↔ a &&& c = 0 ∧ b &&& d = 0 := by
  rw [BitVec.and_append, append_eq_zero]

/-- One bit is 0 exactly when it is not set. -/
theorem ofBool_eq_zero {b : Bool} : BitVec.ofBool b = 0#1 ↔ b = false :=
  BitVec.ofBool_eq_iff_eq (b' := false)

/-- A mask of `w[7:4]` and of operand bits asks for those fields (R110). -/
theorem and_mask_eq_zero (w reserved : Word) (mask : BitVec 24)
    (hmask : reserved = mask ++ BitVec.allOnes 4 ++ (0 : BitVec 4)) :
    w &&& reserved = 0 ↔ operandField w &&& mask = 0 ∧ lowReserved w = 0 := by
  conv_lhs => rw [word_eq_fields w, hmask]
  rw [append_and_append_eq_zero, append_and_append_eq_zero]
  simp only [BitVec.ofNat_eq_ofNat, BitVec.and_allOnes, BitVec.and_zero, and_true]

/-- The mask of a format CN opcode covers exactly the fields the decoder checks (R112). -/
theorem and_reservedCN (w : Word) : w &&& 0xFFFFFFF0 = 0 ↔ operandField w = 0 ∧ lowReserved w = 0 := by
  rw [and_mask_eq_zero w 0xFFFFFFF0 (BitVec.allOnes 24) rfl, BitVec.and_allOnes]

/-- The mask of ENCODE covers exactly the fields the decoder checks (R112). -/
theorem and_reservedCE (w : Word) :
    w &&& Claim.reservedBits 1 = 0 ↔ ceReserved w = 0 ∧ lowReserved w = 0 := by
  rw [and_mask_eq_zero w (Claim.reservedBits 1) (BitVec.allOnes 8 ++ (0 : Byte) ++ (0 : Byte)) rfl,
    operandField_CE, append_and_append_eq_zero, append_and_append_eq_zero]
  simp only [BitVec.ofNat_eq_ofNat, BitVec.and_allOnes, BitVec.and_zero, and_true]

/-- The mask of FLUSH covers exactly the fields the decoder checks (R112). -/
theorem and_reservedCF (w : Word) :
    w &&& Claim.reservedBits 3 = 0 ↔ cfReserved w = 0 ∧ lowReserved w = 0 := by
  rw [and_mask_eq_zero w (Claim.reservedBits 3) (BitVec.allOnes 22 ++ (0 : BitVec 1) ++ (0 : BitVec 1)) rfl,
    operandField_CF, append_and_append_eq_zero, append_and_append_eq_zero]
  simp only [BitVec.ofNat_eq_ofNat, BitVec.and_allOnes, BitVec.and_zero, and_true]

/-- The mask of SETCFG covers exactly the fields the decoder checks (R112). -/
theorem and_reservedCS (w : Word) :
    w &&& Claim.reservedBits 6 = 0 ↔ csReserved w = 0 ∧ lowReserved w = 0 := by
  rw [and_mask_eq_zero w (Claim.reservedBits 6) (BitVec.allOnes 21 ++ (0 : BitVec 1) ++ (0 : BitVec 2)) rfl,
    operandField_CS, append_and_append_eq_zero, append_and_append_eq_zero]
  simp only [BitVec.ofNat_eq_ofNat, BitVec.and_allOnes, BitVec.and_zero, and_true]

/-- The mask of WFIELD covers exactly the fields the decoder checks (R112). -/
theorem and_reservedCW (w : Word) :
    w &&& Claim.reservedBits 7 = 0 ↔ idxReserved w = false ∧ lowReserved w = 0 := by
  rw [and_mask_eq_zero w (Claim.reservedBits 7) ((0 : Half) ++ BitVec.allOnes 1 ++ (0 : BitVec 7)) rfl,
    operandField_CW, append_and_append_eq_zero, append_and_append_eq_zero]
  simp only [BitVec.ofNat_eq_ofNat, BitVec.and_allOnes, BitVec.and_zero, ofBool_eq_zero, and_true, true_and]

/-- The mask of RFIELD covers exactly the fields the decoder checks (R112). -/
theorem and_reservedCR (w : Word) :
    w &&& Claim.reservedBits 8 = 0 ↔ valueField w = 0 ∧ idxReserved w = false ∧ lowReserved w = 0 := by
  rw [and_mask_eq_zero w (Claim.reservedBits 8) (BitVec.allOnes 16 ++ BitVec.allOnes 1 ++ (0 : BitVec 7)) rfl,
    operandField_CW, append_and_append_eq_zero, append_and_append_eq_zero]
  simp only [BitVec.ofNat_eq_ofNat, BitVec.and_allOnes, BitVec.and_zero, ofBool_eq_zero, and_true, and_assoc]

/-- The one index `fieldIndexOk` refuses (R121 (c)). -/
theorem not_fieldIndexOk_iff (idx : BitVec 7) : ¬ fieldIndexOk idx = true ↔ idx.toNat = 127 := by
  simp only [fieldIndexOk, Config.maxFields, decide_eq_true_eq]
  omega

/-- The one mode `acceptOk` refuses (R121 (d)). -/
theorem not_acceptOk_iff (accept : BitVec 2) : ¬ acceptOk accept = true ↔ accept.toNat = 3 := by
  simp only [acceptOk, decide_eq_true_eq]
  omega

/-- R121 over the fields that the decoder reads, for a word of a given opcode. -/
theorem illegalWord_iff {w : Word} {op : Nat} (hop : (opField w).toNat = op) : Claim.IllegalWord w ↔
    11 ≤ op ∨ ¬ (w &&& Claim.reservedBits op = 0) ∨ ((op = 7 ∨ op = 8) ∧ ¬ fieldIndexOk (idxField w) = true) ∨
      (op = 6 ∧ ¬ acceptOk (acceptField w) = true) := by
  rw [not_fieldIndexOk_iff, not_acceptOk_iff, idxField_toNat, acceptField_toNat, ← hop, opField_toNat]
  rfl

/-- A format-CN opcode refuses exactly the words with a bit set outside the opcode. -/
theorem noOperands_refuses_iff {w : Word} {op : Nat} (i : Instr) (hop : (opField w).toNat = op)
    (hlegal : op < 11) (hmask : Claim.reservedBits op = 0xFFFFFFF0) :
    (∃ r, noOperands w i = .error r) ↔ Claim.IllegalWord w := by
  have h6 : op ≠ 6 := by rintro rfl; exact absurd hmask (by decide)
  have h7 : op ≠ 7 := by rintro rfl; exact absurd hmask (by decide)
  have h8 : op ≠ 8 := by rintro rfl; exact absurd hmask (by decide)
  rw [illegalWord_iff hop, hmask, and_reservedCN, noOperands, exists_ite_error]
  simp [h6, h7, h8, hlegal]

/-- The decoder refuses exactly the words of R121 (a) to (d): each branch's checks are the mask of its opcode, then the
operand that R121 (c) or (d) names. -/
theorem decodeCommand_refuses_iff (w : Word) : (∃ r, decodeCommand w = .error r) ↔ Claim.IllegalWord w := by
  unfold decodeCommand
  -- branch `k + 1` is OP = `k`
  split
  case h_1 hop | h_3 hop | h_5 hop | h_6 hop | h_10 hop | h_11 hop =>
    exact noOperands_refuses_iff _ hop (by decide) rfl
  case h_2 hop =>
    rw [illegalWord_iff hop, exists_ite_error, and_reservedCE]
    simp
  case h_4 hop =>
    rw [illegalWord_iff hop, exists_ite_error, and_reservedCF]
    simp
  case h_7 hop =>
    rw [illegalWord_iff hop, exists_ite_error, exists_ite_error, and_reservedCS]
    simp
  case h_8 hop =>
    rw [illegalWord_iff hop, exists_ite_error, exists_ite_error, and_reservedCW]
    simp
  case h_9 hop =>
    rw [illegalWord_iff hop, exists_ite_error, exists_ite_error, and_reservedCR]
    simp
  case h_12 =>
    have hreserved : 11 ≤ (opField w).toNat := by
      simp only [imp_false] at *
      omega
    exact iff_of_true ⟨_, rfl⟩ ((illegalWord_iff rfl).2 (.inl hreserved))

/-- Settles O4: the refused words are those of R121, and the step on a refused word only sets the fault. -/
theorem illegalWordsOnlySetTheFault : Obligations.IllegalWordsOnlySetTheFault := by
  unfold Obligations.IllegalWordsOnlySetTheFault
  intro w
  refine ⟨decodeCommand_refuses_iff w, fun hillegal s rest he => ?_⟩
  obtain ⟨r, hr⟩ := (decodeCommand_refuses_iff w).2 hillegal
  exact ⟨_, Machine.step_illegal he hr, rfl, fun _ => rfl⟩

end Sys2Proof

namespace Sys2Proof.Machine

/-! ## The assembler (R130) -/

/-- A number below `2 ^ m` is the same word whether or not it is read as an `m`-bit operand first. -/
theorem ofNat_eq_setWidth_ofNat {m x : Nat} (hm : m ≤ 32) (hx : x < 2 ^ m) :
    BitVec.ofNat 32 x = (BitVec.ofNat m x).setWidth 32 := (BitVec.setWidth_ofNat_of_le_of_lt hm hx).symm

/-- ENCODE's line is a word of format CE (R130). -/
theorem assemble_encode_eq {code n : Nat} (hcode : code ≤ 255) (hn : n ≤ 255) :
    assemble (.encode code n) = some (wordCE (BitVec.ofNat 8 code) (BitVec.ofNat 8 n)) := by
  rw [assemble_encode, if_pos ⟨hcode, hn⟩, ofNat_eq_setWidth_ofNat (m := 8) (by decide) (by omega),
    ofNat_eq_setWidth_ofNat (x := code) (m := 8) (by decide) (by omega), wordCE_eq]

/-- FLUSH's line is a word of format CF (R130). -/
theorem assemble_flush_eq (rx tx : Bool) : assemble (.flush rx tx) = some (wordCF tx rx) := by
  rw [← wordCF_eq, ← BitVec.ofNat_toNat, ← BitVec.ofNat_toNat, toNat_ofBool_eq, toNat_ofBool_eq]
  rfl

/-- SETCFG's line is a word of format CS (R130). -/
theorem assemble_setcfg_eq (a : AcceptMode) (d : Direction) :
    assemble (.setcfg a d) = some (wordCS (acceptBits a) d) := by
  cases a <;> cases d <;> rfl

/-- WFIELD's line is a word of format CW (R130). -/
theorem assemble_wfield_eq {i : Nat} {v : Int} (hi : i ≤ 126) (hlow : -32768 ≤ v) (hhigh : v ≤ 65535) :
    assemble (.wfield i v) = some (wordCW (BitVec.ofNat 7 i) (BitVec.ofInt 16 v)) := by
  rw [assemble_wfield, if_pos ⟨hi, hlow, hhigh⟩, ofNat_eq_setWidth_ofNat (m := 7) (by decide) (by omega), wordCW_eq]

/-- RFIELD's line is a word of format CR (R130). -/
theorem assemble_rfield_eq {i : Nat} (hi : i ≤ 126) : assemble (.rfield i) = some (wordCR (BitVec.ofNat 7 i)) := by
  rw [assemble_rfield, if_pos hi, ofNat_eq_setWidth_ofNat (m := 7) (by decide) (by omega), wordCR_eq]

/-- An index up to 126 is well formed as an operand (R113). -/
theorem fieldIndexOk_ofNat {i : Nat} (hi : i ≤ 126) : fieldIndexOk (BitVec.ofNat 7 i) = true := by
  simp only [fieldIndexOk, Config.maxFields, BitVec.toNat_ofNat, decide_eq_true_eq]
  omega

/-- A mode's two bits are its number, and never the reserved 3 (R46). -/
theorem acceptBits_eq (a : AcceptMode) :
    acceptBits a = BitVec.ofNat 2 (Claim.acceptNumber a) ∧ acceptOk (acceptBits a) = true := by
  cases a <;> decide

/-- Settles O5, line by line: the assembled word is the word of the line's format, which decodes to its operands. -/
theorem assembledLinesDecode : Obligations.AssembledLinesDecode := by
  unfold Obligations.AssembledLinesDecode
  refine ⟨rfl, fun code n hcode hn => ?encode, rfl, fun rx tx => ?flush, rfl, rfl, fun a d => ?setcfg,
    fun i v hi hlow hhigh => ?wfield, fun i hi => ?rfield, rfl, rfl⟩
  case encode => rw [assemble_encode_eq hcode hn, Option.map_some, decodeCommand_wordCE]
  case flush => rw [assemble_flush_eq, Option.map_some, decodeCommand_wordCF]
  case setcfg =>
    obtain ⟨hbits, hok⟩ := acceptBits_eq a
    rw [assemble_setcfg_eq, Option.map_some, decodeCommand_wordCS hok, hbits]
  case wfield => rw [assemble_wfield_eq hi hlow hhigh, Option.map_some, decodeCommand_wordCW (fieldIndexOk_ofNat hi)]
  case rfield => rw [assemble_rfield_eq hi, Option.map_some, decodeCommand_wordCR (fieldIndexOk_ofNat hi)]

/-- Settles O6: each of these lines fails the range check of its operands. -/
theorem assemblerRefusesOutOfRange : Obligations.AssemblerRefusesOutOfRange := by
  unfold Obligations.AssemblerRefusesOutOfRange
  refine ⟨fun code n hn => ?encode, fun i v hiv => ?wfield, fun i hi => ?rfield⟩
  case encode => rw [assemble_encode, if_neg (by omega)]
  case wfield => rw [assemble_wfield, if_neg (by omega)]
  case rfield => rw [assemble_rfield, if_neg (by omega)]

end Sys2Proof.Machine
end

section
/-! PROOF. The encoder (R140 to R148): ENCODE and WFIELD, the bytes of a frame and its checksum, and what a decoder
makes of a frame's bytes, as they were queued and with one bit flipped. -/

namespace Sys2Proof

/-! ## Illegal words, opcode by opcode -/

/-- Whatever the opcode, a bit set where its pattern marks 0 makes the word illegal (R121 (b)). -/
theorem reservedBitsFault (op : Nat) : Claim.ReservedBitsFault op := by
  rintro w rfl hbits
  exact (illegalWordsOnlySetTheFault w).2 (.inr (.inl hbits))

/-- WFIELD's words with IDX = 127 are illegal (R121 (c), R141). -/
theorem wfieldIndex127Faults {w : Word} (hop : w.toNat % 16 = 7) (hidx : w.toNat / 256 % 128 = 127) :
    Claim.OnlyFaults w :=
  (illegalWordsOnlySetTheFault w).2 (.inr (.inr (.inl ⟨.inl hop, hidx⟩)))

/-- Every index but 127 is well formed (R121 (c)). -/
theorem fieldIndexOk_of_ne {idx : BitVec 7} (h : idx ≠ 127) : fieldIndexOk idx = true := by
  by_contra hbad
  exact h (BitVec.eq_of_toNat_eq ((not_fieldIndexOk_iff idx).1 hbad))

/-! ## XOR over bytes (R101, R140) -/

/-- The running XOR is its start value XOR all the bytes. -/
theorem foldl_xor_eq_xorAll (bs : List Byte) :
    ∀ c : Byte, bs.foldl (fun c b => c ^^^ b) c = c ^^^ Claim.xorAll bs := by
  induction bs with
  | nil => intro c; simp [Claim.xorAll]
  | cons b bs ih =>
    intro c
    rw [List.foldl_cons, ih, BitVec.xor_assoc]
    rfl

/-- The checksum is the XOR of the length byte, the code byte and the payload bytes (R101). -/
theorem checksum_eq_xorAll (len code : Byte) (payload : List Byte) :
    checksum len code payload = Claim.xorAll (len :: code :: payload) := by
  rw [checksum, foldl_xor_eq_xorAll, show 0x00 ^^^ len = len from BitVec.zero_xor, BitVec.xor_assoc]
  rfl

/-- What is XORed into one byte is XORed into the XOR of them all. -/
theorem xorAll_set_xor (mask : Byte) (bs : List Byte) : ∀ i : Nat, i < bs.length →
    Claim.xorAll (bs.set i (bs.getD i 0 ^^^ mask)) = Claim.xorAll bs ^^^ mask := by
  induction bs with
  | nil => intro i hi; cases hi
  | cons b bs ih =>
    intro i hi
    cases i with
    | zero =>
      change b ^^^ mask ^^^ Claim.xorAll bs = b ^^^ Claim.xorAll bs ^^^ mask
      rw [BitVec.xor_assoc, BitVec.xor_comm mask, BitVec.xor_assoc]
    | succ i =>
      change b ^^^ Claim.xorAll (bs.set i (bs.getD i 0 ^^^ mask)) = b ^^^ Claim.xorAll bs ^^^ mask
      rw [ih i (Nat.lt_of_succ_lt_succ hi), BitVec.xor_assoc]

/-- A byte with one bit set is not 0x00. -/
theorem oneBit_ne_zero {bit : Nat} (h : bit < 8) : (0x01 : Byte) <<< bit ≠ 0 := by
  interval_cases bit <;> decide

/-! ## The bytes of a frame (R100, R143) -/

/-- The direction byte of CFG.ENCDIR (R47). -/
theorem directionByte_eq_ite (d : Direction) : directionByte d = if d = .request then 0x3C else 0x3E := by
  cases d <;> rfl

/-- A field's low byte by division (R72). -/
theorem lowByte_eq_ofNat (f : Half) : lowByte f = BitVec.ofNat 8 (f.toNat % 256) :=
  BitVec.eq_of_toNat_eq (by simp [lowByte])

/-- A field's high byte by division (R72). -/
theorem highByte_eq_ofNat (f : Half) : highByte f = BitVec.ofNat 8 (f.toNat / 256) :=
  BitVec.eq_of_toNat_eq (by simp [highByte, Nat.shiftRight_eq_div_pow])

/-- Payload byte `j` stands at frame byte 5 + `j` (R100). -/
theorem wireFrame_getElem?_payload (dir code : Byte) {payload : List Byte} {j : Nat} (h : j < payload.length) :
    (wireFrame dir code payload)[5 + j]? = payload[j]? := by
  rw [wireFrame_eq, Nat.add_comm]
  exact List.getElem?_append_left h

/-- The checksum byte follows the payload (R100). -/
theorem wireFrame_getElem?_checksum (dir code : Byte) (payload : List Byte) :
    (wireFrame dir code payload)[5 + payload.length]? =
      some (checksum (BitVec.ofNat 8 payload.length) code payload) := by
  rw [wireFrame_eq, Nat.add_comm]
  exact List.getElem?_concat_length

/-- The bytes that the checksum covers: the length byte, the code byte and the payload (R101). -/
theorem wireFrame_checksummed (dir code : Byte) (payload : List Byte) :
    ((wireFrame dir code payload).drop 3).take (2 + payload.length) =
      BitVec.ofNat 8 payload.length :: code :: payload := by
  rw [wireFrame_eq, Nat.add_comm]
  simp

/-- A frame's bytes from the code byte on (R100). -/
theorem wireFrame_getD_body (dir code : Byte) {payload : List Byte} {i : Nat} (h : i ≤ payload.length) :
    (wireFrame dir code payload).getD (4 + i) 0 = (code :: payload).getD i 0 := by
  rw [wireFrame_eq, Nat.add_comm]
  exact List.getD_append (code :: payload) _ 0 i (Nat.lt_succ_of_le h)

/-- A change within the code byte and the payload leaves the marker, the length byte and the checksum byte. -/
theorem wireFrame_set_body (dir code v : Byte) {payload : List Byte} {i : Nat} (h : i ≤ payload.length) :
    ∃ (code' : Byte) (payload' : List Byte), code' :: payload' = (code :: payload).set i v ∧
      payload'.length = payload.length ∧
      (wireFrame dir code payload).set (4 + i) v =
        [0x24, 0x4D, dir, BitVec.ofNat 8 payload'.length, code'] ++ payload' ++
          [checksum (BitVec.ofNat 8 payload.length) code payload] := by
  cases i with
  | zero => exact ⟨v, payload, rfl, rfl, rfl⟩
  | succ j =>
    refine ⟨code, payload.set j v, rfl, List.length_set, ?_⟩
    rw [wireFrame_eq, Nat.add_comm, List.length_set]
    simp only [List.set_cons_succ, List.set_append_left j v h]
    rfl

end Sys2Proof

namespace Sys2Proof.Machine

/-! ## ENCODE and WFIELD (R141, R142) -/

/-- While BUSY, ENCODE is refused (R305). -/
theorem exec_encode_busy {s : State} (h : s.phase ≠ .idle) (code n : Byte) :
    exec (.encode code n) s = .next s.faultReentry := State.whenIdle_busy h _

/-- ENCODE of more than 127 fields is a LengthOverflow (R142). -/
theorem exec_encode_overflow {s : State} (h : s.phase = .idle) (code : Byte) {n : Byte} (hn : 127 < n.toNat) :
    exec (.encode code n) s = .next (s.setErr .lengthOverflow) :=
  (State.whenIdle_idle h _).trans (if_pos hn)

/-- ENCODE on an idle block queues the frame of the first N fields (R142). -/
theorem exec_encode_queues {s : State} (h : s.phase = .idle) (code : Byte) {n : Byte} (hn : n.toNat ≤ 127) :
    exec (.encode code n) s = .next
      ((s.txPush (frameOfFields (directionByte s.cfgEncdir) code (s.sendFields n.toNat))).setErr .ok) :=
  (State.whenIdle_idle h _).trans (if_neg (Nat.not_lt.2 hn))

/-- WFIELD at an index that exists (R141). -/
theorem exec_wfield {idx : BitVec 7} (h : idx.toNat < 127) (value : Half) (s : State) :
    exec (.wfield idx value) s = .next (s.setEncField idx.toNat h value) := dif_pos h

/-- Up to 127 fields can be sent, and that many are (R142). -/
theorem State.sendFields_length (s : State) {n : Nat} (hn : n ≤ 127) : (s.sendFields n).length = n := by
  simp [State.sendFields, hn]

/-- Field `i` of those that are sent (R142). -/
theorem State.sendFields_getD (s : State) (n i : Nat) (hi : i < 127) :
    (s.sendFields n).getD i 0 = if i < n then s.encFields[i] else 0 := by
  rw [State.sendFields, List.getD_eq_getElem?_getD, List.getElem?_take]
  split <;> simp [hi]

/-- Settles O14: the word is format CE's, and `exec` by BUSY and by N. -/
theorem encodeQueuesFrameOrRefuses : Obligations.EncodeQueuesFrameOrRefuses := by
  unfold Obligations.EncodeQueuesFrameOrRefuses
  intro code n s
  refine ⟨?word, reservedBitsFault 1, fun hbusy => exec_encode_busy hbusy code n,
    fun hidle hn => exec_encode_overflow hidle code hn, fun hidle hn => ?queues⟩
  case word => rw [wordCE_eq, decodeCommand_wordCE]
  case queues =>
    rw [exec_encode_queues hidle code hn, directionByte_eq_ite]
    rfl

/-- Settles O15, from the places of the payload and of the checksum byte in a wire frame. -/
theorem frameBytesInPlace : Obligations.FrameBytesInPlace := by
  unfold Obligations.FrameBytesInPlace
  intro dir code f _
  have hlen := fieldBytes_length f
  refine ⟨?length, ?head, fun i hi => ?field, ?check⟩
  case length =>
    simp only [frameOfFields, wireFrame_eq, List.length_cons, List.length_append, List.length_nil, hlen]
    omega
  case head => rw [frameOfFields, wireFrame_eq, hlen]; rfl
  case field =>
    obtain ⟨hlow, hhigh⟩ := fieldBytes_getElem? f i hi
    rw [← lowByte_eq_ofNat, ← highByte_eq_ofNat, ← hlow, ← hhigh, show 6 + 2 * i = 5 + (2 * i + 1) by omega]
    exact ⟨wireFrame_getElem?_payload dir code (by omega), wireFrame_getElem?_payload dir code (by omega)⟩
  case check =>
    rw [← hlen, frameOfFields, wireFrame_getElem?_checksum, wireFrame_checksummed, checksum_eq_xorAll]

/-- Settles O20: the word is format CW's, and `exec` sets the one entry. -/
theorem wfieldWritesOneEntry : Obligations.WfieldWritesOneEntry := by
  unfold Obligations.WfieldWritesOneEntry
  refine ⟨reservedBitsFault 7, fun w hop hidx => wfieldIndex127Faults hop hidx, fun idx value s hidx => ?_⟩
  have hok := fieldIndexOk_of_ne hidx
  have hlt : idx.toNat < 127 := of_decide_eq_true hok
  refine ⟨by rw [wordCW_eq, decodeCommand_wordCW hok], _, exec_wfield hlt value s, rfl, fun i hi => ?entry⟩
  case entry => simp only [State.setEncField_encFields, Vector.getElem_set, eq_comm]

/-! ## A decode of one whole frame (R160 to R171) -/

/-- The decoder's test of the third marker byte is R162's. -/
theorem accepts_iff_admits (a : AcceptMode) (b : Byte) : accepts a b = true ↔ Claim.Admits a b := by
  cases a <;> simp [accepts, Claim.Admits]

/-- DECODE's word issued to an idle block arms the decoder (R160). -/
theorem step_decode {s : State} {rest : List Event} (he : s.events = .host 0x00000002 :: rest) (hp : s.phase = .idle) :
    step s = .next { s with events := rest, resultPort := none, err := .ok, phase := .hunt } :=
  (step_command he (i := .decode) (by decide)).trans
    (State.whenIdle_idle (s := { s with events := rest, resultPort := none }) hp _)

/-- `'$'` in phase HUNT (R163). -/
theorem step_hunt_dollar {s : State} {q : List RxItem} {rest : List Event} (he : s.events = .decoder :: rest)
    (hp : s.phase = .hunt) (hq : s.rxq = .byte 0x24 :: q) :
    step s = .next { s with phase := .gotS, rxq := q, events := rest } := by
  rw [step_byte he (by simp [hp]) hq]
  simp only [decoderByte, hp]
  rfl

/-- `'M'` in phase GOT_S (R164). -/
theorem step_gotS_M {s : State} {q : List RxItem} {rest : List Event} (he : s.events = .decoder :: rest)
    (hp : s.phase = .gotS) (hq : s.rxq = .byte 0x4D :: q) :
    step s = .next { s with phase := .gotM, rxq := q, events := rest } := by
  rw [step_byte he (by simp [hp]) hq]
  simp only [decoderByte, hp]
  rfl

/-- An admitted direction byte in phase GOT_M (R165). -/
theorem step_gotM_admitted {s : State} {d : Byte} {q : List RxItem} {rest : List Event}
    (he : s.events = .decoder :: rest) (hp : s.phase = .gotM) (ha : Claim.Admits s.cfgAccept d)
    (hq : s.rxq = .byte d :: q) :
    step s = .next { s with decDir := d, phase := .len, rxq := q, events := rest } := by
  rw [step_byte he (by simp [hp]) hq]
  simp only [decoderByte, hp, gotMByte, (accepts_iff_admits _ _).2 ha, if_true]

/-- An accepted marker at the head of RXQ takes the decoder from HUNT to LEN (R163 to R165). -/
theorem run_marker {s : State} {d : Byte} {q : List RxItem} {rest : List Event} (hp : s.phase = .hunt)
    (ha : Claim.Admits s.cfgAccept d) (hq : s.rxq = .byte 0x24 :: .byte 0x4D :: .byte d :: q)
    (he : s.events = .decoder :: .decoder :: .decoder :: rest) :
    Host.Core.run Sys2Proof.core 3 s = .next { s with decDir := d, phase := .len, rxq := q, events := rest } :=
  .trans (run_succ (step_hunt_dollar he hp hq)) <|
    .trans (run_succ (step_gotS_M rfl rfl rfl)) (run_succ (step_gotM_admitted rfl rfl ha rfl))

/-- What the decode of a whole frame with checksum byte `k` makes of `s`: the commit if the byte is right, else
ChecksumMismatch with the results kept (R42, R169, R171). -/
structure FrameDecoded (s t : State) (d code k : Byte) (payload : List Byte) (q : List RxItem)
    (rest : List Event) : Prop where
  phase : t.phase = .idle
  rxq : t.rxq = q
  events : t.events = rest
  outside : Claim.OutsideDecoderSame s t
  decCsum : t.decCsum = checksum (BitVec.ofNat 8 payload.length) code payload
  commits : k = checksum (BitVec.ofNat 8 payload.length) code payload → t.err = .ok ∧ Claim.Committed t d code payload
  rejects : k ≠ checksum (BitVec.ofNat 8 payload.length) code payload →
    t.err = .checksumMismatch ∧ Claim.SameResults s t

/-- DECODE and 6 + L decoder steps over a whole frame: the arming step, the marker, then the body. -/
theorem run_decode_frame {s : State} {d code k : Byte} {payload : List Byte} {q : List RxItem} {rest : List Event}
    (hp : s.phase = .idle) (hw : s.decBuf.wf = true) (ha : Claim.Admits s.cfgAccept d) (hl : payload.length ≤ 255)
    (hq : s.rxq = ([0x24, 0x4D, d, BitVec.ofNat 8 payload.length, code] ++ payload ++ [k]).map .byte ++ q)
    (he : s.events = .host 0x00000002 :: (List.replicate (6 + payload.length) .decoder ++ rest)) :
    ∃ t, Claim.RunsTo (7 + payload.length) s t ∧ FrameDecoded s t d code k payload q rest := by
  have hevents : List.replicate (6 + payload.length) Event.decoder ++ rest =
      .decoder :: .decoder :: .decoder :: (List.replicate (payload.length + 3) .decoder ++ rest) := by
    rw [Nat.add_comm]; rfl
  have hmarker := run_marker (s := { s with
      events := List.replicate (6 + payload.length) .decoder ++ rest, resultPort := none, err := .ok, phase := .hunt })
    (d := d) rfl ha hq hevents
  obtain ⟨m, -, hbody⟩ := run_body { s with
      resultPort := none, err := .ok, decDir := d, phase := .len
      rxq := (BitVec.ofNat 8 payload.length :: code :: (payload ++ [k])).map .byte ++ q
      events := List.replicate (payload.length + 3) .decoder ++ rest } code k payload q rest hl rfl hw rfl rfl
  have hrun := (run_succ (step_decode he hp)).trans ((run_add 3 (payload.length + 3) hmarker).trans hbody)
  rw [show 3 + (payload.length + 3) + 1 = 7 + payload.length by omega] at hrun
  by_cases hk : k = checksum (BitVec.ofNat 8 payload.length) code payload
  · refine ⟨_, hrun.trans (congrArg Host.Outcome.next (if_pos hk)), ?_⟩
    exact {
      phase := rfl, rxq := rfl, events := rfl, outside := ⟨rfl, rfl, rfl, rfl, rfl, rfl⟩, decCsum := rfl
      commits := fun _ => ⟨rfl, State.acceptFrame_committed _ _ _ _⟩
      rejects := fun hne => absurd hk hne }
  · refine ⟨_, hrun.trans (congrArg Host.Outcome.next (if_neg hk)), ?_⟩
    exact {
      phase := rfl, rxq := rfl, events := rfl, outside := ⟨rfl, rfl, rfl, rfl, rfl, rfl⟩, decCsum := rfl
      commits := fun heq => absurd heq hk
      rejects := fun _ => ⟨rfl, rfl, rfl, rfl, rfl, rfl, rfl, rfl, rfl⟩ }

/-- A frame of R143 that is received as it was made is committed with its fields. -/
theorem FrameDecoded.of_fields {s t : State} {d code : Byte} {f : List Half} {q : List RxItem} {rest : List Event}
    (hf : f.length ≤ 127)
    (h : FrameDecoded s t d code (checksum (BitVec.ofNat 8 (fieldBytes f).length) code (fieldBytes f)) (fieldBytes f)
      q rest) :
    t.err = .ok ∧ t.rxCode = code ∧ t.rxLen.toNat = 2 * f.length ∧ t.odd = false ∧
      ∀ (i : Nat) (hi : i < 127), t.rxFields[i] = f.getD i 0 := by
  obtain ⟨herr, hfields, hcode, hlen, -, -, hodd, -⟩ := h.commits rfl
  rw [fieldBytes_length] at hlen hodd
  refine ⟨herr, hcode, ?_, ?_, fun i hi => ?_⟩
  · rw [hlen, toNat_lengthByte (by omega)]
  · rw [hodd, decide_eq_false (by omega)]
  · rw [hfields i hi, fieldBytes_fields]

/-- Settles O44: what ENCODE queues is the wire frame of the fields' bytes, whose decode commits the fields. -/
theorem encodeThenDecodeRoundTrip : Obligations.EncodeThenDecodeRoundTrip := by
  unfold Obligations.EncodeThenDecodeRoundTrip
  intro e code n hidle hn
  refine ⟨_, _, exec_encode_queues hidle code hn, rfl, fun s q rest hp hw ha hq he => ?_⟩
  have hf := e.sendFields_length hn
  have hb : (fieldBytes (e.sendFields n.toNat)).length = 2 * n.toNat := by rw [fieldBytes_length, hf]
  rw [← directionByte_eq_ite] at ha
  rw [← hb] at he ⊢
  obtain ⟨t, hrun, hdecoded⟩ := run_decode_frame hp hw ha (by omega) hq he
  obtain ⟨herr, hcode, hlen, hodd, hfields⟩ := FrameDecoded.of_fields (hf.trans_le hn) hdecoded
  exact ⟨t, hrun, herr, hcode, by rw [hlen, hf, hb], hodd,
    fun i hi => (hfields i hi).trans (e.sendFields_getD n.toNat i hi)⟩

/-- Settles O45: the flipped bit is flipped in the recomputed checksum too, so the received checksum byte no longer
matches. -/
theorem flippedBitIsDetected : Obligations.FlippedBitIsDetected := by
  unfold Obligations.FlippedBitIsDetected
  intro s d code f pos bit q rest hf hp hw ha hlow hhigh hbit hq he
  obtain ⟨i, rfl⟩ := Nat.exists_eq_add_of_le hlow
  have hb := fieldBytes_length f
  have hi : i ≤ (fieldBytes f).length := by omega
  rw [← hb] at he ⊢
  rw [frameOfFields, wireFrame_getD_body d code hi] at hq
  obtain ⟨code', payload', hset, hlen, hframe⟩ :=
    wireFrame_set_body d code ((code :: fieldBytes f).getD i 0 ^^^ 0x01 <<< bit) hi
  have hsum : checksum (BitVec.ofNat 8 payload'.length) code' payload' =
      checksum (BitVec.ofNat 8 (fieldBytes f).length) code (fieldBytes f) ^^^ 0x01 <<< bit := by
    rw [checksum_eq_xorAll, checksum_eq_xorAll, hset, hlen]
    exact xorAll_set_xor (0x01 <<< bit) (_ :: code :: fieldBytes f) (i + 1) (by simpa using Nat.lt_succ_of_le hi)
  rw [hframe] at hq
  rw [← hlen] at he
  obtain ⟨t, hrun, hdecoded⟩ := run_decode_frame hp hw ha (by omega) hq he
  have hwrong : checksum (BitVec.ofNat 8 (fieldBytes f).length) code (fieldBytes f) ≠
      checksum (BitVec.ofNat 8 payload'.length) code' payload' := by
    intro h
    rw [hsum, ← BitVec.xor_eq_zero_iff, ← BitVec.xor_assoc, BitVec.xor_self, BitVec.zero_xor] at h
    exact oneBit_ne_zero hbit h
  obtain ⟨herr, hresults⟩ := hdecoded.rejects hwrong
  refine ⟨t, hlen ▸ hrun, hdecoded.phase, herr, hresults, ?difference⟩
  case difference =>
    rw [hdecoded.decCsum, hsum, frameOfFields, List.getD_eq_getElem?_getD, wireFrame_getElem?_checksum,
      Option.getD_some, BitVec.xor_comm, ← BitVec.xor_assoc, BitVec.xor_self, BitVec.zero_xor]

end Sys2Proof.Machine
end

section
/-! PROOF. The decoder item by item (R161 to R172), and the marker hunt over a whole byte stream (R174). -/

namespace Sys2Proof.Machine

/-! ## The marker hunt on one byte (R162 to R165) -/

/-- The phases before the marker is found. -/
def Hunting (p : Phase) : Prop := p = .hunt ∨ p = .gotS ∨ p = .gotM

/-- The phase after a byte that completes no accepted marker; `decoderByte_hunting` ties it to the decoder. -/
def nextHuntPhase : Phase → Byte → Phase
  | .gotS, b => if b = 0x4D then .gotM else if b = 0x24 then .gotS else .hunt
  | _, b => if b = 0x24 then .gotS else .hunt

theorem Hunting.ne_idle {p : Phase} (h : Hunting p) : p ≠ .idle := by
  rintro rfl
  simp [Hunting] at h

theorem hunting_nextHuntPhase (p : Phase) (b : Byte) : Hunting (nextHuntPhase p b) := by
  have hrestart : Hunting (if b = 0x24 then .gotS else .hunt) := by split <;> simp [Hunting]
  cases p with
  | gotS =>
    rw [nextHuntPhase]
    split
    · exact .inr (.inr rfl)
    · exact hrestart
  | _ => exact hrestart

theorem huntByte_eq_setPhase (b : Byte) (s : State) : huntByte b s = s.setPhase (nextHuntPhase .hunt b) :=
  (apply_ite s.setPhase _ _ _).symm

theorem gotSByte_eq_setPhase (b : Byte) (s : State) : gotSByte b s = s.setPhase (nextHuntPhase .gotS b) := by
  rw [gotSByte, nextHuntPhase, apply_ite s.setPhase, apply_ite s.setPhase]

theorem gotMByte_eq_setPhase {b : Byte} {s : State} (h : ¬ Claim.Admits s.cfgAccept b) :
    gotMByte b s = s.setPhase (nextHuntPhase .gotM b) := by
  rw [gotMByte, if_neg (mt (accepts_iff_admits _ _).1 h)]
  exact (apply_ite s.setPhase _ _ _).symm

/-- Before the marker is found, a byte that does not complete an accepted one moves PHASE alone (R163 to R165). -/
theorem decoderByte_hunting {b : Byte} {s : State} (hp : Hunting s.phase)
    (hb : s.phase = .gotM → ¬ Claim.Admits s.cfgAccept b) :
    decoderByte b s = .next (s.setPhase (nextHuntPhase s.phase b)) := by
  rcases hp with hp | hp | hp
  · simp only [decoderByte, hp, huntByte_eq_setPhase]
  · simp only [decoderByte, hp, gotSByte_eq_setPhase]
  · simp only [decoderByte, hp, gotMByte_eq_setPhase (hb hp)]

theorem step_hunting {s : State} {b : Byte} {q : List RxItem} {rest : List Event} (he : s.events = .decoder :: rest)
    (hq : s.rxq = .byte b :: q) (hp : Hunting s.phase) (hb : s.phase = .gotM → ¬ Claim.Admits s.cfgAccept b) :
    step s = .next { s with events := rest, rxq := q, phase := nextHuntPhase s.phase b } :=
  (step_byte he hp.ne_idle hq).trans (decoderByte_hunting (s := { s with events := rest, rxq := q }) hp hb)

/-- Settles O33: `step_hunting` in the three phases, and the admitted direction byte. -/
theorem huntRulesOnAByte : Obligations.HuntRulesOnAByte := by
  unfold Obligations.HuntRulesOnAByte
  intro s b q rest he hq
  refine ⟨fun hp => ?hunt, fun hp => ?gotS, fun hp ha => ?marker, fun hp ha => ?gotM⟩
  case hunt => simpa only [hp, nextHuntPhase] using step_hunting he hq (.inl hp) (by simp [hp])
  case gotS => simpa only [hp, nextHuntPhase] using step_hunting he hq (.inr (.inl hp)) (by simp [hp])
  case marker => exact step_gotM_admitted he hp ha hq
  case gotM => simpa only [hp, nextHuntPhase] using step_hunting he hq (.inr (.inr hp)) fun _ => ha

/-! ## The frame phases on one item (R166 to R172) -/

/-- The length byte (R166). -/
theorem step_len {s : State} {b : Byte} {q : List RxItem} {rest : List Event} (he : s.events = .decoder :: rest)
    (hq : s.rxq = .byte b :: q) (hp : s.phase = .len) :
    step s = .next (lenByte b { s with events := rest, rxq := q }) := by
  rw [step_byte he (by simp [hp]) hq]
  simp only [decoderByte, hp]

/-- The code byte (R167). -/
theorem step_code {s : State} {b : Byte} {q : List RxItem} {rest : List Event} (he : s.events = .decoder :: rest)
    (hq : s.rxq = .byte b :: q) (hp : s.phase = .code) :
    step s = .next (codeByte b { s with events := rest, rxq := q }) := by
  rw [step_byte he (by simp [hp]) hq]
  simp only [decoderByte, hp]

/-- Settles O34: what `lenByte` and `codeByte` write is R166 and R167. -/
theorem headerRulesOnAByte : Obligations.HeaderRulesOnAByte := by
  unfold Obligations.HeaderRulesOnAByte
  intro s b q rest he hq
  exact ⟨step_len he hq, step_code he hq⟩

/-- A payload byte whose write DEC_BUF takes (R168). -/
theorem step_payload {s : State} {b : Byte} {m : Memory} {q : List RxItem} {rest : List Event}
    (he : s.events = .decoder :: rest) (hq : s.rxq = .byte b :: q) (hp : s.phase = .payload)
    (hm : s.decBuf.write? s.decCnt.toNat b = some m) :
    step s = .next { s with
      events := rest
      rxq := q
      decBuf := m
      decCsum := s.decCsum ^^^ b
      decCnt := s.decCnt + 1
      phase := if s.decCnt + 1 = s.decLen then .chk else .payload } := by
  rw [step_byte he (by simp [hp]) hq]
  simp only [decoderByte, hp, payloadStep, hm]

/-- Settles O35: below offset 255 the write succeeds, it is a write at DEC_CNT alone, and DEC_CNT does not wrap. -/
theorem payloadRuleOnAByte : Obligations.PayloadRuleOnAByte := by
  unfold Obligations.PayloadRuleOnAByte
  intro s b q rest he hq hp hw hcnt
  have hm := (Memory.write?_eq_some s.decBuf _ s.decCnt.toNat b).2 ⟨hcnt, rfl⟩
  refine ⟨_, step_payload he hq hp hm, Memory.read_write?_same hw hm,
    fun a ha => Memory.read_write?_other hw hm ha, ?registers⟩
  case registers =>
    have hsucc : (s.decCnt + 1).toNat = s.decCnt.toNat + 1 := by bv_omega
    simp only [← hsucc, BitVec.ofNat_toNat, BitVec.setWidth_eq, BitVec.toNat_inj]

/-- The checksum byte (R169). -/
theorem step_chk {s : State} {b : Byte} {q : List RxItem} {rest : List Event} (he : s.events = .decoder :: rest)
    (hq : s.rxq = .byte b :: q) (hp : s.phase = .chk) :
    step s = if b = s.decCsum
      then .next (State.acceptFrame { s with events := rest, rxq := q } s.decDir s.decCode s.decPayload)
      else .next { s with events := rest, rxq := q, err := .checksumMismatch, phase := .idle } := by
  rw [step_byte he (by simp [hp]) hq]
  simp only [decoderByte, hp, chkByte_eq]
  rfl

/-- The fields of the received payload are pairs of bytes of DEC_BUF (R75, R171). -/
theorem State.committedFields_decPayload (s : State) (i : Nat) (h : i < 127) :
    (committedFields s.decPayload)[i] =
      if i < s.decLen.toNat / 2 then s.decBuf.read (2 * i + 1) ++ s.decBuf.read (2 * i) else 0 := by
  rw [committedFields_getElem, State.decPayload_length]
  split
  · rw [State.decPayload_getD s _ (by omega), State.decPayload_getD s _ (by omega)]
  · rfl

/-- The tail byte of an odd received payload is its last byte in DEC_BUF (R171). -/
theorem State.committedTail_decPayload (s : State) : committedTail s.decPayload =
    if s.decLen.toNat % 2 = 1 then s.decBuf.read (s.decLen.toNat - 1) else 0 := by
  rw [committedTail, State.decPayload_length]
  split
  · exact State.decPayload_getD s _ (by omega)
  · rfl

/-- Settles O36: one equation for phase CHK, and what the commit reads from DEC_BUF. -/
theorem checkByteCommitsOrRejects : Obligations.CheckByteCommitsOrRejects := by
  unfold Obligations.CheckByteCommitsOrRejects
  intro s b q rest he hq hp
  have hstep := step_chk he hq hp
  refine ⟨fun hne => hstep.trans (if_neg hne), fun heq => ?commit⟩
  case commit =>
    refine ⟨_, hstep.trans (if_pos heq), s.committedFields_decPayload, ?registers⟩
    case registers =>
      simp only [State.acceptFrame_eq, State.committedTail_decPayload, State.decPayload_length, BitVec.ofNat_toNat,
        BitVec.setWidth_eq, oddFlag, unknownFlag, shortFlag, fieldCount]

/-- Settles O38: `step_eos`, with the outcome of each phase. -/
theorem endOfStreamEndsDecode : Obligations.EndOfStreamEndsDecode := by
  unfold Obligations.EndOfStreamEndsDecode
  intro s q rest he hq
  refine ⟨fun hp => ?beforeMarker, fun hp => ?inFrame⟩
  case beforeMarker =>
    have hkind : eosKind s.phase = .streamUnavailable := by rcases hp with hp | hp | hp <;> rw [hp] <;> rfl
    rw [step_eos he (Hunting.ne_idle hp) hq, hkind]
  case inFrame =>
    have hkind : eosKind s.phase = .malformedSequence := by rcases hp with hp | hp | hp | hp <;> rw [hp] <;> rfl
    have hbusy : s.phase ≠ .idle := by rcases hp with hp | hp | hp | hp <;> simp [hp]
    rw [step_eos he hbusy hq, hkind]

/-! ## The marker hunt over a byte stream (R174) -/

/-- The bytes of a marker that a phase of the hunt has seen. -/
def markerSeen : Phase → List Byte
  | .gotS => [0x24]
  | .gotM => [0x24, 0x4D]
  | _ => []

/-- The decoder forgets no byte that may begin a marker: what it has seen after `b` is the end of what it had, and `b`. -/
theorem markerSeen_nextHuntPhase_suffix (p : Phase) (b : Byte) :
    markerSeen (nextHuntPhase p b) <:+ markerSeen p ++ [b] := by
  have hrestart (l : List Byte) : markerSeen (if b = 0x24 then .gotS else .hunt) <:+ l ++ [b] := by
    split
    · subst b
      exact List.suffix_append l _
    · exact List.nil_suffix
  cases p with
  | gotS =>
    rw [nextHuntPhase]
    split
    · subst b
      exact List.suffix_rfl
    · exact hrestart _
  | _ => exact hrestart _

theorem noMarker_of_suffix {a : AcceptMode} {l l' : List Byte} (h : Claim.NoMarker a l') (hl : l <:+ l') :
    Claim.NoMarker a l := by
  obtain ⟨w, rfl⟩ := hl
  intro u x v hu
  exact h (w ++ u) x v (by simp [hu])

/-- A marker in the bytes before an accepted marker would be an earlier one. -/
theorem noMarker_of_noEarlierMarker {a : AcceptMode} {u m : List Byte} (hm : m ≠ [])
    (h : Claim.NoEarlierMarker a (u ++ m)) : Claim.NoMarker a u := by
  intro w x v hu hx
  have hv : v ++ m = [] := h w x (v ++ m) (by rw [hu, List.append_assoc]) hx
  exact hm (List.append_eq_nil_iff.1 hv).2

/-- While the bytes seen and the bytes to come hold no accepted marker, the hunt goes on and only PHASE moves. -/
theorem run_hunting (bs : List Byte) : ∀ (s : State) (q : List RxItem) (rest : List Event), Hunting s.phase →
    Claim.NoMarker s.cfgAccept (markerSeen s.phase ++ bs) → s.rxq = bs.map .byte ++ q →
    s.events = List.replicate bs.length .decoder ++ rest →
    ∃ p, Hunting p ∧ Claim.RunsTo bs.length s { s with events := rest, rxq := q, phase := p } := by
  induction bs with
  | nil =>
    intro s q rest hp _ hq he
    obtain rfl : s.rxq = q := hq
    obtain rfl : s.events = rest := he
    exact ⟨s.phase, hp, run_zero s⟩
  | cons b bs ih =>
    intro s q rest hp hno hq he
    have hb : s.phase = .gotM → ¬ Claim.Admits s.cfgAccept b := fun hgot => hno [] b bs (by rw [hgot]; rfl)
    have hstep := step_hunting (b := b) he hq hp hb
    have hsuffix : markerSeen (nextHuntPhase s.phase b) ++ bs <:+ markerSeen s.phase ++ b :: bs := by
      obtain ⟨w, hw⟩ := markerSeen_nextHuntPhase_suffix s.phase b
      exact ⟨w, by rw [← List.append_assoc, hw, List.append_assoc]; rfl⟩
    obtain ⟨p, hp', hrun⟩ := ih { s with
      events := List.replicate bs.length .decoder ++ rest
      rxq := bs.map .byte ++ q
      phase := nextHuntPhase s.phase b } q rest (hunting_nextHuntPhase _ b) (noMarker_of_suffix hno hsuffix) rfl rfl
    exact ⟨p, hp', (run_succ hstep).trans hrun⟩

/-- `'$'` is no direction byte (R162). -/
theorem not_admits_dollar (a : AcceptMode) : ¬ Claim.Admits a 0x24 := by
  simp [Claim.Admits]

/-- An accepted marker takes the decoder to LEN from every phase of the hunt, whatever it had seen (R163 to R165). -/
theorem run_hunting_marker {s : State} {d : Byte} {q : List RxItem} {rest : List Event} (hp : Hunting s.phase)
    (ha : Claim.Admits s.cfgAccept d) (hq : s.rxq = .byte 0x24 :: .byte 0x4D :: .byte d :: q)
    (he : s.events = .decoder :: .decoder :: .decoder :: rest) :
    Claim.RunsTo 3 s { s with events := rest, rxq := q, decDir := d, phase := .len } := by
  have hdollar : nextHuntPhase s.phase 0x24 = .gotS := by cases s.phase <;> rfl
  have hstep := step_hunting he hq hp fun _ => not_admits_dollar _
  rw [hdollar] at hstep
  exact (run_succ hstep).trans <| (run_succ (step_gotS_M rfl rfl rfl)).trans (run_succ (step_gotM_admitted rfl rfl ha rfl))

/-- Settles O42: the hunt over the bytes before the marker, by what each phase has seen of one; then the marker. -/
theorem huntFindsEarliestMarker : Obligations.HuntFindsEarliestMarker := by
  unfold Obligations.HuntFindsEarliestMarker
  intro s bs q rest hp hq he
  have hseen : markerSeen s.phase = [] := by rw [hp]; rfl
  refine ⟨fun hno => ?noMarker, fun u d hbs ha hfirst => ?marker⟩
  case noMarker =>
    obtain ⟨p, hp', hrun⟩ := run_hunting bs s q rest (.inl hp) (by rwa [hseen]) hq he
    exact ⟨_, hrun, hp', rfl⟩
  case marker =>
    subst hbs
    have hno : Claim.NoMarker s.cfgAccept (markerSeen s.phase ++ u) := by
      rw [hseen]
      exact noMarker_of_noEarlierMarker (by simp) hfirst
    obtain ⟨p, hp', hrun⟩ := run_hunting u s (.byte 0x24 :: .byte 0x4D :: .byte d :: q)
      (.decoder :: .decoder :: .decoder :: rest) (.inl hp) hno (by simp [hq])
      (by rw [he, List.length_append, List.replicate_add, List.append_assoc]; rfl)
    rw [List.length_append]
    exact (run_add u.length 3 hrun).trans (run_hunting_marker hp' ha rfl rfl)

end Sys2Proof.Machine
end

section
/-! PROOF. The message catalog (R200 to R202): the members of K, and what the codec does with a code outside K. -/

namespace Sys2Proof.Machine

/-- Settles O31: the ranges of `inCatalog_eq_true`, and a count over the 256 codes. -/
theorem catalogSetMembers : Obligations.CatalogSetMembers := by
  unfold Obligations.CatalogSetMembers
  refine ⟨fun code => ?members, ?count⟩
  case members =>
    rw [inCatalog_eq_true]
    simp only [List.mem_cons, List.not_mem_nil, or_false]
    omega
  case count => decide

/-- Only codes of K have a minimum number of fields (R202). -/
theorem minFields_eq_zero {code : Byte} (h : inCatalog code = false) : minFields code = 0 := by
  have hnot : ¬ inCatalog code = true := Bool.eq_false_iff.1 h
  rw [inCatalog_eq_true] at hnot
  unfold minFields
  split
  case h_7 => rfl
  -- the other branches are the six codes with a minimum, all between 100 and 121
  all_goals omega

/-- A frame with a code outside K is UNKNOWN (R171, R201). -/
theorem unknownFlag_eq_true {code : Byte} (h : inCatalog code = false) : unknownFlag code = true := by
  rw [unknownFlag, h]
  rfl

/-- A frame with a code outside K is never SHORT, however few fields it has (R171, R202). -/
theorem shortFlag_eq_false {code : Byte} (h : inCatalog code = false) (payload : List Byte) :
    shortFlag code payload = false := by
  rw [shortFlag, minFields_eq_zero h]
  exact decide_eq_false (Nat.not_lt_zero _)

/-- Settles O37: the commit of phase CHK and the frame of ENCODE are the same for every code; outside K the flags of the
commit are UNKNOWN and not SHORT. -/
theorem unknownCodesCommitRaw : Obligations.UnknownCodesCommitRaw := by
  unfold Obligations.UnknownCodesCommitRaw
  refine ⟨fun s q rest he hp hq hcode => ?commit, fun code n s _ hidle hn => ?encode⟩
  case commit =>
    exact ⟨_, (step_chk he hq hp).trans (if_pos rfl), unknownFlag_eq_true hcode, shortFlag_eq_false hcode _, rfl, rfl,
      s.committedFields_decPayload⟩
  case encode =>
    refine ⟨_, exec_encode_queues hidle code hn, rfl, ?_⟩
    rw [← directionByte_eq_ite]
    rfl

end Sys2Proof.Machine
end

section
/-! PROOF. Session control and result commands (R261 to R269): the words of each command, legal and illegal, and what the
command changes on a busy and on an idle block. -/

namespace Sys2Proof

/-! ## Operands that make a word illegal (R121) -/

/-- RFIELD's words with IDX = 127 are illegal (R121 (c), R267). -/
theorem rfieldIndex127Faults {w : Word} (hop : w.toNat % 16 = 8) (hidx : w.toNat / 256 % 128 = 127) :
    Claim.OnlyFaults w :=
  (illegalWordsOnlySetTheFault w).2 (.inr (.inr (.inl ⟨.inr hop, hidx⟩)))

/-- SETCFG's words with ACCEPT = 3 are illegal (R121 (d), R266). -/
theorem setcfgAccept3Faults {w : Word} (hop : w.toNat % 16 = 6) (haccept : w.toNat / 256 % 4 = 3) :
    Claim.OnlyFaults w :=
  (illegalWordsOnlySetTheFault w).2 (.inr (.inr (.inr ⟨hop, haccept⟩)))

end Sys2Proof

namespace Sys2Proof.Machine

/-! ## The registers of STATUS and INFO as numbers (R50, R51) -/

/-- PHASE's bits are its number (R32). -/
theorem phaseBits_toNat (p : Phase) : (phaseBits p).toNat = Claim.phaseNumber p := by cases p <;> rfl

/-- ERR's bits are its number (R300). -/
theorem errBits_toNat (k : ErrKind) : (errBits k).toNat = Claim.errNumber k := by cases k <;> rfl

/-- CFG.ACCEPT's bits are its number (R46). -/
theorem acceptBits_toNat (a : AcceptMode) : (acceptBits a).toNat = Claim.acceptNumber a := by cases a <;> rfl

/-- CFG.ENCDIR's bit is its number (R47). -/
theorem directionBit_toNat (d : Direction) : (directionBit d).toNat = Claim.encdirNumber d := by cases d <;> rfl

/-- An empty queue by the test of R50's RXQ_EMPTY and TXQ_EMPTY. -/
theorem isEmpty_eq_decide {α : Type} [DecidableEq α] (q : List α) : q.isEmpty = decide (q = []) := by
  cases q <;> simp

/-- The STATUS word has every field at R50's place, and 0 at the reserved bits. -/
theorem State.statusWord_toNat (s : State) : s.statusWord.toNat = Claim.statusNumber s := by
  simp only [State.statusWord, toNat_append_eq, toNat_ofBool_eq, directionBit_toNat, acceptBits_toNat, phaseBits_toNat,
    errBits_toNat, State.busy, isEmpty_eq_decide, BitVec.toNat_ofNat, Claim.statusNumber]
  omega

/-- The INFO word has RX_TAIL, RX_DIR, RX_LEN and RX_CODE from the top byte down (R51). -/
theorem State.infoWord_toNat (s : State) : s.infoWord.toNat =
    s.rxTail.toNat * 2 ^ 24 + s.rxDir.toNat * 2 ^ 16 + s.rxLen.toNat * 2 ^ 8 + s.rxCode.toNat := by
  simp only [State.infoWord, toNat_append_eq]
  omega

/-! ## SETCFG and RFIELD (R266, R267) -/

/-- The CS word by shifts (R111). -/
theorem wordCS_eq (a : AcceptMode) (d : Direction) :
    (BitVec.ofNat 32 (Claim.encdirNumber d) <<< 10 ||| BitVec.ofNat 32 (Claim.acceptNumber a) <<< 8 ||| 0x6 : Word) =
      wordCS (acceptBits a) d := by
  cases a <;> cases d <;> rfl

/-- The operand of a mode names that mode (R46). -/
theorem acceptOfBits_acceptBits (a : AcceptMode) : acceptOfBits (acceptBits a) = some a := by cases a <;> rfl

/-- SETCFG with the operand of a mode needs an idle block and sets both fields (R266). -/
theorem exec_setcfg_mode (a : AcceptMode) (d : Direction) (s : State) :
    exec (.setcfg (acceptBits a) d) s = s.whenIdle (.next (s.setConfig a d)) := by
  change execSetcfg (acceptBits a) d s = _
  rw [execSetcfg, acceptOfBits_acceptBits]

/-- RFIELD at an index that exists (R267). -/
theorem exec_rfield {idx : BitVec 7} (h : idx.toNat < 127) (s : State) :
    exec (.rfield idx) s = .next (s.respond (s.rxFields[idx.toNat].setWidth 32)) := dif_pos h

/-- Settles O19: the word is format CS's, and `exec` by BUSY. -/
theorem setcfgWritesConfiguration : Obligations.SetcfgWritesConfiguration := by
  unfold Obligations.SetcfgWritesConfiguration
  refine ⟨reservedBitsFault 6, fun w hop haccept => setcfgAccept3Faults hop haccept, fun a d s => ?_⟩
  obtain ⟨hbits, hok⟩ := acceptBits_eq a
  rw [wordCS_eq, ← hbits, exec_setcfg_mode]
  exact ⟨decodeCommand_wordCS hok d, fun hbusy => State.whenIdle_busy hbusy _, fun hidle => State.whenIdle_idle hidle _⟩

/-- Settles O21: the word is format CR's, and widening a field keeps its value. -/
theorem rfieldReturnsCommittedEntry : Obligations.RfieldReturnsCommittedEntry := by
  unfold Obligations.RfieldReturnsCommittedEntry
  refine ⟨reservedBitsFault 8, fun w hop hidx => rfieldIndex127Faults hop hidx, fun idx s hlt => ?_⟩
  have hok : fieldIndexOk idx = true := decide_eq_true hlt
  exact ⟨by rw [wordCR_eq, decodeCommand_wordCR hok], _, exec_rfield hlt s, BitVec.toNat_setWidth_of_le (by decide)⟩

/-! ## The status words (R268, R269) -/

/-- Settles O22, from the places of the fields in the STATUS word. -/
theorem rstatusReturnsStatus : Obligations.RstatusReturnsStatus := by
  unfold Obligations.RstatusReturnsStatus
  exact ⟨rfl, reservedBitsFault 9, rfl, fun s => ⟨s.statusWord, rfl, s.statusWord_toNat⟩⟩

/-- Settles O23, from the places of the registers in the INFO word. -/
theorem rinfoReturnsHeader : Obligations.RinfoReturnsHeader := by
  unfold Obligations.RinfoReturnsHeader
  exact ⟨rfl, reservedBitsFault 10, rfl, fun s => ⟨s.infoWord, rfl, s.infoWord_toNat⟩⟩

/-! ## Session control (R261 to R264) -/

/-- Settles O12: RESET leaves the reset state with the schedule of the state it ran on. -/
theorem resetCommandResets : Obligations.ResetCommandResets := by
  unfold Obligations.ResetCommandResets
  exact ⟨rfl, fun s => ⟨s.resetState, rfl, rfl⟩, rfl, reservedBitsFault 5⟩

/-- Settles O13: the word is NOP's, and NOP's arm of `exec` answers the state it is given. -/
theorem nopDoesNothing : Obligations.NopDoesNothing := by
  unfold Obligations.NopDoesNothing
  exact ⟨rfl, fun _ => rfl, reservedBitsFault 0⟩

/-- Settles O17: the word is format CF's, and `exec` by BUSY. -/
theorem flushEmptiesSelectedQueues : Obligations.FlushEmptiesSelectedQueues := by
  unfold Obligations.FlushEmptiesSelectedQueues
  intro tx rx s
  exact ⟨by rw [wordCF_eq, decodeCommand_wordCF], reservedBitsFault 3, fun hbusy => State.whenIdle_busy hbusy _,
    fun hidle => State.whenIdle_idle hidle _⟩

/-- Settles O18: ABORT's test of BUSY, both ways. -/
theorem abortRecordsTimeout : Obligations.AbortRecordsTimeout := by
  unfold Obligations.AbortRecordsTimeout
  exact ⟨rfl, reservedBitsFault 4, fun s => ⟨fun hbusy => if_pos (s.busy_eq_true.2 hbusy),
    fun hidle => if_neg (Bool.eq_false_iff.1 (s.busy_eq_false.2 hidle))⟩⟩

end Sys2Proof.Machine
end

section
/-! PROOF. Exceptions: the commands a busy block refuses and the ones it runs (R305), and the stream-error input (R304). -/

namespace Sys2Proof.Machine

/-! ## Commands while BUSY (R305) -/

/-- Every ACCEPT operand but 3 is the operand of a mode (R46, R266). -/
theorem exists_acceptBits_eq {a : BitVec 2} (h : a ≠ 3) : ∃ m : AcceptMode, acceptBits m = a := by
  have hcases : a = 0 ∨ a = 1 ∨ a = 2 := by bv_omega
  obtain rfl | rfl | rfl := hcases
  · exact ⟨.any, rfl⟩
  · exact ⟨.rsp, rfl⟩
  · exact ⟨.req, rfl⟩

/-- While BUSY, SETCFG with a legal ACCEPT is refused (R305); ACCEPT = 3 is illegal, and
legality is checked first (R308). -/
theorem exec_setcfg_busy {s : State} (h : s.phase ≠ .idle) {a : BitVec 2} (ha : a ≠ 3) (d : Direction) :
    exec (.setcfg a d) s = .next s.faultReentry := by
  obtain ⟨m, rfl⟩ := exists_acceptBits_eq ha
  rw [exec_setcfg_mode, State.whenIdle_busy h]

/-- While BUSY, ABORT records Timeout and abandons the frame (R263). -/
theorem exec_abort_busy {s : State} (h : s.phase ≠ .idle) :
    exec .abort s = .next ((s.setErr .timeout).setPhase .idle) := if_pos (s.busy_eq_true.2 h)

/-- The five commands that never look at BUSY write ENC_FIELDS and the result port at most, whatever the state. -/
theorem exec_writes_only_encFields_resultPort (s : State) {i : Instr}
    (hi : i = .nop ∨ i = .rstatus ∨ i = .rinfo ∨ (∃ x v, x ≠ 127 ∧ i = .wfield x v) ∨ (∃ x, x ≠ 127 ∧ i = .rfield x)) :
    ∃ t, exec i s = .next t ∧ t = { s with encFields := t.encFields, resultPort := t.resultPort } := by
  obtain rfl | rfl | rfl | ⟨x, v, hx, rfl⟩ | ⟨x, hx, rfl⟩ := hi
  · exact ⟨s, rfl, rfl⟩
  · exact ⟨s.respond s.statusWord, rfl, rfl⟩
  · exact ⟨s.respond s.infoWord, rfl, rfl⟩
  · exact ⟨_, exec_wfield (of_decide_eq_true (fieldIndexOk_of_ne hx)) v s, rfl⟩
  · exact ⟨_, exec_rfield (of_decide_eq_true (fieldIndexOk_of_ne hx)) s, rfl⟩

/-- Settles O24: the four commands behind BUSY's test, the five that do not look at BUSY, ABORT and RESET. -/
theorem busyRefusesFourCommands : Obligations.BusyRefusesFourCommands := by
  unfold Obligations.BusyRefusesFourCommands
  intro s hbusy
  refine ⟨?encode, ?decode, ?flush, ?setcfg, ?performed, ?abort, ?reset⟩
  case encode => exact exec_encode_busy hbusy
  case decode => exact State.whenIdle_busy hbusy _
  case flush => exact fun _ _ => State.whenIdle_busy hbusy _
  case setcfg => exact fun _ d ha => exec_setcfg_busy hbusy ha d
  case performed => exact fun _ hi => exec_writes_only_encFields_resultPort s hi
  case abort => exact exec_abort_busy hbusy
  case reset => exact ⟨s.resetState, rfl, rfl⟩

/-! ## The stream-error input (R304) -/

/-- Settles O40: the step is `State.streamError`, whose two branches agree, since an IDLE phase already has the value IDLE. -/
theorem streamErrorAbandonsDecode : Obligations.StreamErrorAbandonsDecode := by
  unfold Obligations.StreamErrorAbandonsDecode
  exact fun _ _ he => step_streamError he

end Sys2Proof.Machine
end

section
/-! PROOF. The reset state (R340): every register, and the STATUS and INFO words it reads as. -/

namespace Sys2Proof.Machine

/-! ## The indexed stores at reset -/

/-- DEC_BUF lists no cell at reset, and an unlisted offset reads as 0x00 (R38, R340). -/
@[simp] theorem State.reset_decBuf_read (a : Nat) : State.reset.decBuf.read a = 0x00 := rfl

/-- Every encoder field is 0x0000 at reset (R39, R340). -/
@[simp] theorem State.reset_encFields_getElem {i : Nat} (h : i < 127) : State.reset.encFields[i] = 0x0000 :=
  Vector.getElem_replicate h

/-- Every received field is 0x0000 at reset (R40, R340). -/
@[simp] theorem State.reset_rxFields_getElem {i : Nat} (h : i < 127) : State.reset.rxFields[i] = 0x0000 :=
  Vector.getElem_replicate h

/-! ## R340's table -/

/-- Settles O11: the scalar registers as `State.reset` writes them, the three indexed stores at every place, and the two
status words computed from them. -/
theorem resetStateValues : Obligations.ResetStateValues := by
  unfold Obligations.ResetStateValues
  refine ⟨rfl, rfl, rfl, rfl, rfl, rfl, ?decBuf, ?fields, rfl, rfl, rfl, rfl, rfl, rfl, rfl, rfl, rfl, rfl, rfl, rfl, rfl,
    rfl, rfl, ?status, ?info⟩
  case decBuf => exact fun a _ => State.reset_decBuf_read a
  case fields => exact fun _ h => ⟨State.reset_encFields_getElem h, State.reset_rxFields_getElem h⟩
  case status | info => rfl

end Sys2Proof.Machine
end

section
/-! PROOF. The coherence of the registers (R35 to R44): every step keeps it, the reset state has it, and a coherent state
always has a next state. -/

namespace Sys2Proof.Machine

/-! ## The two halves of coherence -/

/-- The half of `Coherent` that speaks of the decoder's own registers (R35 to R38). -/
structure DecoderCoherent (s : State) : Prop where
  buffer : s.decBuf.wf = true
  count : s.decCnt.toNat ≤ s.decLen.toNat
  direction : inFrame s.phase = true → s.decDir = 0x3C ∨ s.decDir = 0x3E
  codePhase : s.phase = .code → s.decCsum = s.decLen ∧ s.decCnt = 0x00
  payloadPhase : s.phase = .payload → s.decCnt.toNat < s.decLen.toNat ∧
    s.decCsum = checksum s.decLen s.decCode (s.decBuf.firstBytes s.decCnt.toNat)
  chkPhase : s.phase = .chk → s.decCnt = s.decLen ∧ s.decCsum = checksum s.decLen s.decCode s.decPayload

/-- The half of `Coherent` that speaks of the result registers and frame flags (R40 to R44). -/
structure ResultsCoherent (s : State) : Prop where
  dir : s.rxDir = 0x00 ∨ s.rxDir = 0x3C ∨ s.rxDir = 0x3E
  odd : s.odd = decide (s.rxLen.toNat % 2 = 1)
  tail : s.rxLen.toNat % 2 = 0 → s.rxTail = 0x00
  fields : ∀ (i : Nat) (h : i < 127), s.rxLen.toNat / 2 ≤ i → s.rxFields[i] = 0x0000
  flags : s.rxDir ≠ 0x00 →
    s.unknown = !inCatalog s.rxCode ∧ s.short = decide (s.rxLen.toNat / 2 < minFields s.rxCode)
  beforeCommit : s.rxDir = 0x00 → s.rxCode = 0x00 ∧ s.rxLen = 0x00 ∧ s.unknown = false ∧ s.short = false

theorem coherent_iff (s : State) : Coherent s ↔ DecoderCoherent s ∧ ResultsCoherent s :=
  ⟨fun h => ⟨⟨h.buffer, h.count, h.direction, h.codePhase, h.payloadPhase, h.chkPhase⟩,
    ⟨h.resultDir, h.resultOdd, h.resultTail, h.resultFields, h.resultFlags, h.beforeCommit⟩⟩,
  fun ⟨hd, hr⟩ => ⟨hd.buffer, hd.count, hd.direction, hd.codePhase, hd.payloadPhase, hd.chkPhase,
    hr.dir, hr.odd, hr.tail, hr.fields, hr.flags, hr.beforeCommit⟩⟩

/-! ## The result registers -/

theorem ResultsCoherent.of_sameResults {s t : State} (h : ResultsCoherent s) (hst : Claim.SameResults s t) :
    ResultsCoherent t := by
  obtain ⟨hfields, hcode, hlen, hdir, htail, hunknown, hshort, hodd⟩ := hst
  constructor
  · rw [hdir]; exact h.dir
  · rw [hodd, hlen]; exact h.odd
  · rw [hlen, htail]; exact h.tail
  · rw [hlen, hfields]; exact h.fields
  · rw [hdir, hunknown, hcode, hshort, hlen]; exact h.flags
  · rw [hdir, hunknown, hcode, hshort, hlen]; exact h.beforeCommit

theorem resultsCoherent_reset : ResultsCoherent State.reset where
  dir := .inl rfl
  odd := rfl
  tail := fun _ => rfl
  fields := fun _ h _ => State.reset_rxFields_getElem h
  flags := fun h => absurd rfl h
  beforeCommit := fun _ => ⟨rfl, rfl, rfl, rfl⟩

/-- The commit of a frame with a direction byte leaves coherent results (R171). -/
theorem ResultsCoherent.of_committed {t : State} {dir code : Byte} {payload : List Byte}
    (hdir : dir = 0x3C ∨ dir = 0x3E) (hlen : payload.length ≤ 255) (h : Claim.Committed t dir code payload) :
    ResultsCoherent t := by
  obtain ⟨hfields, hrxCode, hrxLen, hrxDir, hrxTail, hodd, hunknown, hshort⟩ := h
  have hlength : t.rxLen.toNat = payload.length := by rw [hrxLen, toNat_lengthByte hlen]
  have hne : t.rxDir ≠ 0x00 := by rw [hrxDir]; rcases hdir with rfl | rfl <;> decide
  constructor
  case dir => rw [hrxDir]; exact .inr hdir
  case odd => rw [hodd, hlength]
  case tail =>
    intro heven
    rw [hrxTail, if_neg (by omega)]
  case fields =>
    intro i hi habove
    rw [hfields i hi, if_neg (by omega)]
  case flags => exact fun _ => ⟨by rw [hunknown, hrxCode], by rw [hshort, hrxCode, hlength]⟩
  case beforeCommit => exact fun hzero => absurd hzero hne

/-- A step changes the results by a commit or a reset alone (R42), and both leave them coherent. -/
theorem step_keeps_resultsCoherent {s t : State} (hd : DecoderCoherent s) (hr : ResultsCoherent s)
    (hstep : step s = .next t) : ResultsCoherent t := by
  rcases resultsChangeOnlyByCommitOrReset s t hstep with hsame | ⟨_, _, hreset⟩ | ⟨_, _, _, hp, _, hcommitted⟩
  · exact hr.of_sameResults hsame
  · exact resultsCoherent_reset.of_sameResults hreset
  · refine .of_committed (hd.direction (by rw [hp]; rfl)) ?_ hcommitted
    have := s.decLen.isLt
    simp only [List.length_map, List.length_range]
    omega

/-! ## The decoder's registers -/

/-- The decoder's registers, PHASE aside, of `t` are those of `s` (R33 to R38). -/
def SameDecoder (s t : State) : Prop :=
  t.decLen = s.decLen ∧ t.decCode = s.decCode ∧ t.decDir = s.decDir ∧ t.decCnt = s.decCnt ∧ t.decCsum = s.decCsum ∧
    t.decBuf = s.decBuf

/-- Outside a frame only DEC_BUF's form and the bound on DEC_CNT are asked for. -/
theorem DecoderCoherent.of_not_inFrame {s : State} (hbuf : s.decBuf.wf = true)
    (hcnt : s.decCnt.toNat ≤ s.decLen.toNat) (hp : inFrame s.phase = false) : DecoderCoherent s where
  buffer := hbuf
  count := hcnt
  direction := fun h => by rw [hp] at h; cases h
  codePhase := fun h => by rw [h] at hp; cases hp
  payloadPhase := fun h => by rw [h] at hp; cases hp
  chkPhase := fun h => by rw [h] at hp; cases hp

/-- Coherence is kept where the registers stay, and PHASE stays too or leaves the frame. -/
theorem DecoderCoherent.of_sameDecoder {s t : State} (h : DecoderCoherent s) (hst : SameDecoder s t)
    (hp : t.phase = s.phase ∨ inFrame t.phase = false) : DecoderCoherent t := by
  obtain ⟨hlen, hcode, hdir, hcnt, hcsum, hbuf⟩ := hst
  rcases hp with hp | hp
  · have hpayload : t.decPayload = s.decPayload := by rw [State.decPayload, hbuf, hlen]; rfl
    constructor
    · rw [hbuf]; exact h.buffer
    · rw [hcnt, hlen]; exact h.count
    · rw [hp, hdir]; exact h.direction
    · rw [hp, hcsum, hlen, hcnt]; exact h.codePhase
    · rw [hp, hcnt, hlen, hcsum, hcode, hbuf]; exact h.payloadPhase
    · rw [hp, hcnt, hlen, hcsum, hcode, hpayload]; exact h.chkPhase
  · exact .of_not_inFrame (by rw [hbuf]; exact h.buffer) (by rw [hcnt, hlen]; exact h.count) hp

theorem decoderCoherent_reset : DecoderCoherent State.reset := .of_not_inFrame rfl (Nat.le_refl 0) rfl

/-- An instruction, RESET aside, keeps the decoder's registers, and PHASE unless it ends a decode or arms the decoder. -/
theorem ExecEffect.decoder {s t : State} {i : Instr} (h : ExecEffect s i t) :
    (SameDecoder s t ∧ (t.phase = s.phase ∨ inFrame t.phase = false)) ∨
      (SameDecoder State.reset t ∧ t.phase = .idle) := by
  cases h with
  | reset => exact .inr (by simp [SameDecoder, State.reset])
  | _ => exact .inl (by simp [SameDecoder, inFrame])

theorem DecoderCoherent.of_execEffect {s t : State} {i : Instr} (h : DecoderCoherent s) (hx : ExecEffect s i t) :
    DecoderCoherent t := by
  rcases hx.decoder with ⟨hsame, hp⟩ | ⟨hreset, hp⟩
  · exact h.of_sameDecoder hsame hp
  · exact decoderCoherent_reset.of_sameDecoder hreset (.inl hp)

theorem Hunting.not_inFrame {p : Phase} (h : Hunting p) : inFrame p = false := by
  rcases h with rfl | rfl | rfl <;> rfl

/-- Every byte that an accepting mode admits is a direction byte (R162). -/
theorem direction_of_admits {a : AcceptMode} {b : Byte} (h : Claim.Admits a b) : b = 0x3C ∨ b = 0x3E := by
  rcases h with ⟨_, h⟩ | ⟨_, h⟩ | ⟨_, h⟩
  · exact h
  · exact .inr h
  · exact .inl h

/-- The hunt's restart of PHASE keeps coherence. -/
theorem DecoderCoherent.setPhase_nextHuntPhase {s : State} (h : DecoderCoherent s) (p : Phase) (b : Byte) :
    DecoderCoherent (s.setPhase (nextHuntPhase p b)) :=
  h.of_sameDecoder ⟨rfl, rfl, rfl, rfl, rfl, rfl⟩ (.inr (hunting_nextHuntPhase p b).not_inFrame)

/-- The third marker byte: an admitted one is kept as DEC_DIR, any other restarts the hunt (R165). -/
theorem DecoderCoherent.gotMByte {s : State} (h : DecoderCoherent s) (b : Byte) : DecoderCoherent (gotMByte b s) := by
  by_cases ha : Claim.Admits s.cfgAccept b
  · rw [Machine.gotMByte, if_pos ((accepts_iff_admits _ _).2 ha)]
    exact {
      buffer := h.buffer, count := h.count, direction := fun _ => direction_of_admits ha
      codePhase := nofun, payloadPhase := nofun, chkPhase := nofun }
  · rw [gotMByte_eq_setPhase ha]
    exact h.setPhase_nextHuntPhase _ b

/-- The length byte starts the running XOR and the count (R166). -/
theorem DecoderCoherent.lenByte {s : State} (h : DecoderCoherent s) (hp : s.phase = .len) (b : Byte) :
    DecoderCoherent (lenByte b s) where
  buffer := h.buffer
  count := Nat.zero_le _
  direction := fun _ => h.direction (by rw [hp]; rfl)
  codePhase := fun _ => ⟨rfl, rfl⟩
  payloadPhase := nofun
  chkPhase := nofun

/-- The code byte goes into the running XOR; with no payload to come that is the checksum (R167). -/
theorem DecoderCoherent.codeByte {s : State} (h : DecoderCoherent s) (hp : s.phase = .code) (b : Byte) :
    DecoderCoherent (codeByte b s) := by
  obtain ⟨hcsum, hcnt⟩ := h.codePhase hp
  have hsum : s.decCsum ^^^ b = checksum s.decLen b [] := by rw [checksum_nil, hcsum]
  have hdir := h.direction (by rw [hp]; rfl)
  by_cases hlen : s.decLen = 0x00
  · rw [Machine.codeByte, if_pos hlen]
    exact {
      buffer := h.buffer, count := h.count, direction := fun _ => hdir, codePhase := nofun, payloadPhase := nofun
      chkPhase := fun _ => ⟨hcnt.trans hlen.symm, by simpa [State.decPayload, hlen] using hsum⟩ }
  · rw [Machine.codeByte, if_neg hlen]
    refine {
      buffer := h.buffer, count := h.count, direction := fun _ => hdir, codePhase := nofun, chkPhase := nofun
      payloadPhase := fun _ => ⟨?_, by simpa [hcnt] using hsum⟩ }
    change s.decCnt.toNat < s.decLen.toNat
    rw [hcnt]
    exact Nat.pos_of_ne_zero fun hz => hlen (BitVec.eq_of_toNat_eq hz)

/-- A payload byte is stored behind those read before, and the running XOR covers it (R168). -/
theorem DecoderCoherent.of_payload {s : State} {b : Byte} {m : Memory} (h : DecoderCoherent s) (hp : s.phase = .payload)
    (hm : s.decBuf.write? s.decCnt.toNat b = some m) (q : List RxItem) (rest : List Event) :
    DecoderCoherent { s with
      events := rest
      rxq := q
      decBuf := m
      decCsum := s.decCsum ^^^ b
      decCnt := s.decCnt + 1
      phase := if s.decCnt + 1 = s.decLen then .chk else .payload } := by
  obtain ⟨hlt, hcsum⟩ := h.payloadPhase hp
  have hdir := h.direction (by rw [hp]; rfl)
  have hsucc : (s.decCnt + 1).toNat = s.decCnt.toNat + 1 := by bv_omega
  have hsum : s.decCsum ^^^ b = checksum s.decLen s.decCode (m.firstBytes (s.decCnt + 1).toNat) := by
    rw [hsucc, Memory.firstBytes_write? h.buffer hm, checksum_append, hcsum]
  have hle : (s.decCnt + 1).toNat ≤ s.decLen.toNat := by omega
  have hwf := Memory.wf_write? h.buffer hm
  by_cases hlast : s.decCnt + 1 = s.decLen
  · rw [if_pos hlast]
    exact {
      buffer := hwf, count := hle, direction := fun _ => hdir, codePhase := nofun, payloadPhase := nofun
      chkPhase := fun _ => ⟨hlast, by rw [hlast] at hsum; exact hsum⟩ }
  · rw [if_neg hlast]
    exact {
      buffer := hwf, count := hle, direction := fun _ => hdir, codePhase := nofun, chkPhase := nofun
      payloadPhase := fun _ => ⟨Nat.lt_of_le_of_ne hle fun heq => hlast (BitVec.eq_of_toNat_eq heq), hsum⟩ }

/-- Every effect of a step keeps the decoder's registers coherent: the rules of the phases above, and for the rest the
registers stay while PHASE stays or leaves the frame. -/
theorem step_keeps_decoderCoherent {s t : State} (h : DecoderCoherent s) (hstep : step s = .next t) :
    DecoderCoherent t := by
  -- the state with the event, and the item, taken has the same registers
  have htaken (q : List RxItem) (rest : List Event) : DecoderCoherent { s with events := rest, rxq := q } :=
    h.of_sameDecoder ⟨rfl, rfl, rfl, rfl, rfl, rfl⟩ (.inl rfl)
  cases step_cases hstep with
  | command w rest i t he hd hx =>
    have hissued : DecoderCoherent { s with events := rest, resultPort := none } :=
      h.of_sameDecoder ⟨rfl, rfl, rfl, rfl, rfl, rfl⟩ (.inl rfl)
    exact hissued.of_execEffect hx
  | hunt rest q b =>
    rw [huntByte_eq_setPhase]
    exact (htaken q rest).setPhase_nextHuntPhase _ b
  | gotS rest q b =>
    rw [gotSByte_eq_setPhase]
    exact (htaken q rest).setPhase_nextHuntPhase _ b
  | gotM rest q b => exact (htaken q rest).gotMByte b
  | len rest q b he hq hp => exact (htaken q rest).lenByte hp b
  | code rest q b he hq hp => exact (htaken q rest).codeByte hp b
  | payload rest q b m he hq hp hm => exact h.of_payload hp hm q rest
  | held | illegal | waits | send | receive =>
    exact h.of_sameDecoder ⟨rfl, rfl, rfl, rfl, rfl, rfl⟩ (.inl rfl)
  | eos | commit | mismatch | streamError =>
    exact h.of_sameDecoder ⟨rfl, rfl, rfl, rfl, rfl, rfl⟩ (.inr rfl)

/-! ## The invariant -/

/-- Settles O47: the decoder's registers by the rules of the phases, the results by R42's two writers. -/
theorem everyStepKeepsCoherence : Obligations.EveryStepKeepsCoherence := by
  unfold Obligations.EveryStepKeepsCoherence
  intro s t hs hstep
  obtain ⟨hd, hr⟩ := (coherent_iff s).1 hs
  exact (coherent_iff t).2 ⟨step_keeps_decoderCoherent hd hstep, step_keeps_resultsCoherent hd hr hstep⟩

/-- Settles O48: the schedule is no register that coherence speaks of. -/
theorem resetStateIsCoherent : Obligations.ResetStateIsCoherent := by
  unfold Obligations.ResetStateIsCoherent
  intro evs
  exact (coherent_iff _).2 ⟨decoderCoherent_reset.of_sameDecoder ⟨rfl, rfl, rfl, rfl, rfl, rfl⟩ (.inl rfl),
    resultsCoherent_reset.of_sameResults ⟨rfl, rfl, rfl, rfl, rfl, rfl, rfl, rfl⟩⟩

/-- Settles O49: the one fault needs DEC_CNT = 255 in phase PAYLOAD, where DEC_CNT is below DEC_LEN. -/
theorem coherentStatesAlwaysStep : Obligations.CoherentStatesAlwaysStep := by
  unfold Obligations.CoherentStatesAlwaysStep
  intro s hs
  rcases step_total s with ⟨t, hstep, _⟩ | ⟨_, hp, hcnt⟩
  · exact ⟨t, hstep⟩
  · obtain ⟨hlt, _⟩ := hs.payloadPhase hp
    omega

/-- From a coherent state a run of any length goes on, through coherent states. -/
theorem run_coherent (k : Nat) : ∀ s : State, Coherent s → ∃ t, Claim.RunsTo k s t ∧ Coherent t := by
  induction k with
  | zero => exact fun s hs => ⟨s, run_zero s, hs⟩
  | succ k ih =>
    intro s hs
    obtain ⟨s', hstep⟩ := coherentStatesAlwaysStep s hs
    obtain ⟨t, hrun, ht⟩ := ih s' (everyStepKeepsCoherence s s' hs hstep)
    exact ⟨t, (run_succ hstep).trans hrun, ht⟩

/-- Settles O50: the reset state is coherent, and from there every run goes on. -/
theorem everyRunFromResetGoesOn : Obligations.EveryRunFromResetGoesOn := by
  unfold Obligations.EveryRunFromResetGoesOn
  exact fun evs k => run_coherent k _ (resetStateIsCoherent evs)

end Sys2Proof.Machine
end

section
/-! PROOF. Who writes what (R42 to R49): each register and queue that a step may write, agent by agent. -/

namespace Sys2Proof

/-- A legal word is the encoding of its command, so a command's word can be read off its encoding (R123). -/
theorem eq_of_decodeCommand {w w' : Word} {i : Instr} (hd : decodeCommand w = .ok i) (henc : encode i = .command w') :
    w = w' := by
  obtain ⟨-, hw⟩ := legalWordsReencode w i hd
  rw [hw] at henc
  exact Encoding.command.inj henc

/-- What the command decoder gives is well formed (R121 (c), (d)). -/
theorem wellFormed_of_decodeCommand {w : Word} {i : Instr} (hd : decodeCommand w = .ok i) : i.wellFormed = true :=
  (legalWordsReencode w i hd).1

end Sys2Proof

namespace Sys2Proof.Machine

/-! ## The decoder's frame: what its step does to anything but its own registers (R161) -/

/-- What the rule of a phase for one byte does outside the decoder's registers and the results. -/
structure ByteFrame (s t : State) : Prop where
  outside : Claim.OutsideDecoderSame s t
  rxq : t.rxq = s.rxq
  events : t.events = s.events
  err : t.err = s.err ∨ (t.phase = .idle ∧ (t.err = .ok ∨ t.err = .checksumMismatch))

theorem byteFrame_setPhase (s : State) (p : Phase) : ByteFrame s (s.setPhase p) :=
  ⟨⟨rfl, rfl, rfl, rfl, rfl, rfl⟩, rfl, rfl, .inl rfl⟩

theorem gotMByte_frame (b : Byte) (s : State) : ByteFrame s (gotMByte b s) := by
  by_cases ha : Claim.Admits s.cfgAccept b
  · rw [gotMByte, if_pos ((accepts_iff_admits _ _).2 ha)]
    exact ⟨⟨rfl, rfl, rfl, rfl, rfl, rfl⟩, rfl, rfl, .inl rfl⟩
  · rw [gotMByte_eq_setPhase ha]
    exact byteFrame_setPhase s _

theorem payloadStep_frame {b : Byte} {s t : State} (h : payloadStep b s = .next t) : ByteFrame s t := by
  unfold payloadStep at h
  split at h
  · cases h
  · cases h
    exact ⟨⟨rfl, rfl, rfl, rfl, rfl, rfl⟩, rfl, rfl, .inl rfl⟩

theorem chkByte_frame {b : Byte} {s t : State} (h : chkByte b s = .next t) : ByteFrame s t := by
  rw [chkByte_eq] at h
  split at h
  · cases h
    exact ⟨⟨rfl, rfl, rfl, rfl, rfl, rfl⟩, rfl, rfl, .inr ⟨rfl, .inl rfl⟩⟩
  · cases h
    exact ⟨⟨rfl, rfl, rfl, rfl, rfl, rfl⟩, rfl, rfl, .inr ⟨rfl, .inr rfl⟩⟩

/-- The rule of the phase, phase by phase (R163 to R169). -/
theorem decoderByte_frame {b : Byte} {s t : State} (h : decoderByte b s = .next t) : ByteFrame s t := by
  unfold decoderByte at h
  split at h
  case h_1 => cases h; exact ⟨⟨rfl, rfl, rfl, rfl, rfl, rfl⟩, rfl, rfl, .inl rfl⟩
  case h_2 => cases h; rw [huntByte_eq_setPhase]; exact byteFrame_setPhase s _
  case h_3 => cases h; rw [gotSByte_eq_setPhase]; exact byteFrame_setPhase s _
  case h_4 => cases h; exact gotMByte_frame b s
  case h_5 | h_6 => cases h; exact ⟨⟨rfl, rfl, rfl, rfl, rfl, rfl⟩, rfl, rfl, .inl rfl⟩
  case h_7 => exact payloadStep_frame h
  case h_8 => exact chkByte_frame h

/-- What a step of an armed decoder with item `x` does outside the decoder's registers and the results. -/
structure ItemFrame (s t : State) (q : List RxItem) (rest : List Event) : Prop where
  outside : Claim.OutsideDecoderSame s t
  rxq : t.rxq = q
  events : t.events = rest
  err : t.err = s.err ∨ (t.phase = .idle ∧
    (t.err = .ok ∨ t.err = .checksumMismatch ∨ t.err = .malformedSequence ∨ t.err = .streamUnavailable))

theorem eosKind_eq (p : Phase) : eosKind p = .malformedSequence ∨ eosKind p = .streamUnavailable := by
  cases p <;> simp [eosKind]

/-- An armed decoder takes the item at the head of RXQ, EOS or a byte. -/
theorem step_itemFrame {s t : State} {x : RxItem} {q : List RxItem} {rest : List Event} (he : s.events = .decoder :: rest)
    (hp : s.phase ≠ .idle) (hq : s.rxq = x :: q) (h : step s = .next t) : ItemFrame s t q rest := by
  cases x with
  | eos =>
    rw [step_eos he hp hq] at h
    cases h
    exact ⟨⟨rfl, rfl, rfl, rfl, rfl, rfl⟩, rfl, rfl, .inr ⟨rfl, .inr (.inr (eosKind_eq s.phase))⟩⟩
  | byte b =>
    rw [step_byte he hp hq] at h
    obtain ⟨houtside, hrxq, hevents, herr⟩ := decoderByte_frame h
    refine ⟨houtside, hrxq, hevents, herr.imp_right fun ⟨hidle, hkind⟩ => ⟨hidle, ?_⟩⟩
    rcases hkind with hkind | hkind
    · exact .inl hkind
    · exact .inr (.inl hkind)

/-- Settles O56: a coherent state has a next state, and an armed decoder's step takes the head item. -/
theorem armedDecoderTakesOneItem : Obligations.ArmedDecoderTakesOneItem := by
  unfold Obligations.ArmedDecoderTakesOneItem
  intro s x q rest hs hp he hq
  obtain ⟨t, hstep⟩ := coherentStatesAlwaysStep s hs
  have hframe := step_itemFrame he hp hq hstep
  exact ⟨t, hstep, hframe.rxq, hframe.events, hframe.outside⟩

/-! ## One step, agent by agent (R14, R307) -/

/-- What a step can do to the registers that more than the decoder's rules write, by the agent whose event it is. -/
inductive AgentEffect (s : State) : State → Prop
  | held : AgentEffect s s
  | illegal (w : Word) (rest : List Event) (he : s.events = .host w :: rest) (hw : Claim.IllegalWord w) :
      AgentEffect s { s with events := rest, resultPort := none, fIllegal := true }
  | command (w : Word) (rest : List Event) (i : Instr) (t : State) (he : s.events = .host w :: rest)
      (hd : decodeCommand w = .ok i) (hx : ExecEffect { s with events := rest, resultPort := none } i t) :
      AgentEffect s t
  | waits (rest : List Event) : AgentEffect s { s with events := rest }
  | decoder (rest : List Event) (x : RxItem) (q : List RxItem) (t : State) (he : s.events = .decoder :: rest)
      (hp : s.phase ≠ .idle) (hq : s.rxq = x :: q) (hf : ItemFrame s t q rest) : AgentEffect s t
  | send (rest : List Event) (he : s.events = .send :: rest) : AgentEffect s { s with events := rest, txq := s.txq.tail }
  | receive (rest : List Event) (x : RxItem) (he : s.events = .receive x :: rest) :
      AgentEffect s { s with events := rest, rxq := s.rxq ++ [x] }
  | streamError (rest : List Event) (he : s.events = .streamError :: rest) :
      AgentEffect s { s with events := rest, err := .streamUnavailable, phase := .idle }

/-- If a step answers next `t`, then `t` is one of the effects above. -/
theorem agent_cases {s t : State} (h : step s = .next t) : AgentEffect s t := by
  have hdecoder (rest : List Event) (he : s.events = .decoder :: rest) : AgentEffect s t := by
    by_cases hp : s.phase = .idle
    · cases (step_waits he (.inl hp)).symm.trans h
      exact .waits rest
    · cases hq : s.rxq with
      | nil =>
        cases (step_waits he (.inr hq)).symm.trans h
        exact .waits rest
      | cons x q => exact .decoder rest x q t he hp hq (step_itemFrame he hp hq h)
  cases step_cases h with
  | held => exact .held
  | illegal w rest r he hd => exact .illegal w rest he ((decodeCommand_refuses_iff w).1 ⟨r, hd⟩)
  | command w rest i t he hd hx => exact .command w rest i t he hd hx
  | send rest he => exact .send rest he
  | receive rest x he => exact .receive rest x he
  | streamError rest he => exact .streamError rest he
  | _ rest => exact hdecoder rest ‹_›

/-! ## The fault bits (R45) -/

/-- A command that the decoder gives never sets F_ILLEGAL, and only RESET clears it. -/
theorem ExecEffect.fIllegal {s t : State} {i : Instr} (h : ExecEffect s i t) (hwf : i.wellFormed = true) :
    t.fIllegal = s.fIllegal ∨ (i = .reset ∧ t.fIllegal = false) := by
  cases h with
  | reset => exact .inr ⟨rfl, rfl⟩
  | badAccept a d ha =>
    obtain ⟨m, rfl⟩ := exists_acceptBits_eq (a := a) (by rintro rfl; cases hwf)
    rw [acceptOfBits_acceptBits] at ha
    cases ha
  | badWfield idx v hidx => exact absurd (of_decide_eq_true hwf) hidx
  | badRfield idx hidx => exact absurd (of_decide_eq_true hwf) hidx
  | _ => exact .inl rfl

/-- Only a command that needs an idle decoder sets F_REENTRY, while BUSY, and only RESET clears it (R305). -/
theorem ExecEffect.fReentry {s t : State} {i : Instr} (h : ExecEffect s i t) :
    t.fReentry = s.fReentry ∨ (i = .reset ∧ t.fReentry = false) ∨
      (t.fReentry = true ∧ needsIdle i = true ∧ s.phase ≠ .idle) := by
  cases h with
  | reset => exact .inr (.inl ⟨rfl, rfl⟩)
  | reentry i hneeds hbusy => exact .inr (.inr ⟨rfl, hneeds, hbusy⟩)
  | _ => exact .inl rfl

/-- F_ILLEGAL over any step. -/
theorem step_fIllegal {s t : State} (h : step s = .next t) :
    t.fIllegal = s.fIllegal ∨ ((∃ rest, s.events = .host 0x00000005 :: rest) ∧ t.fIllegal = false) ∨
      (t.fIllegal = true ∧ ∃ w rest, s.events = .host w :: rest ∧ Claim.IllegalWord w) := by
  cases agent_cases h with
  | illegal w rest he hw => exact .inr (.inr ⟨rfl, w, rest, he, hw⟩)
  | command w rest i t he hd hx =>
    rcases hx.fIllegal (wellFormed_of_decodeCommand hd) with hkept | ⟨rfl, hcleared⟩
    · exact .inl hkept
    · obtain rfl := eq_five_of_decodeCommand_reset hd
      exact .inr (.inl ⟨⟨rest, he⟩, hcleared⟩)
  | decoder rest x q t he hp hq hf =>
    obtain ⟨-, hkept, -⟩ := hf.outside
    exact .inl hkept
  | _ => exact .inl rfl

/-- F_REENTRY over any step. -/
theorem step_fReentry {s t : State} (h : step s = .next t) :
    t.fReentry = s.fReentry ∨ ((∃ rest, s.events = .host 0x00000005 :: rest) ∧ t.fReentry = false) ∨
      (t.fReentry = true ∧ ∃ w rest i, s.events = .host w :: rest ∧ decodeCommand w = .ok i ∧ needsIdle i = true ∧
        s.phase ≠ .idle) := by
  cases agent_cases h with
  | command w rest i t he hd hx =>
    rcases hx.fReentry with hkept | ⟨rfl, hcleared⟩ | ⟨hset, hneeds, hbusy⟩
    · exact .inl hkept
    · obtain rfl := eq_five_of_decodeCommand_reset hd
      exact .inr (.inl ⟨⟨rest, he⟩, hcleared⟩)
    · exact .inr (.inr ⟨hset, w, rest, i, he, hd, hneeds, hbusy⟩)
  | decoder rest x q t he hp hq hf =>
    obtain ⟨-, -, hkept, -⟩ := hf.outside
    exact .inl hkept
  | _ => exact .inl rfl

/-- A bit that a step leaves, clears by `clear` or sets by `set` is sticky up to `clear` and is set by `set` alone. -/
theorem sticky_of_kept_cleared_set {old new : Bool} {clear set : Prop}
    (h : new = old ∨ (clear ∧ new = false) ∨ (new = true ∧ set)) :
    (old = true → new = true ∨ clear) ∧ (new = true → old = true ∨ set) := by
  rcases h with rfl | ⟨hclear, rfl⟩ | ⟨rfl, hset⟩
  · exact ⟨.inl, .inl⟩
  · exact ⟨fun _ => .inr hclear, nofun⟩
  · exact ⟨fun _ => .inl rfl, fun _ => .inr hset⟩

/-- Settles O51: each bit is kept, cleared by RESET's word or set by its cause. -/
theorem faultBitsStickUntilReset : Obligations.FaultBitsStickUntilReset := by
  unfold Obligations.FaultBitsStickUntilReset
  intro s t hstep
  obtain ⟨hillegalStays, hillegalCause⟩ := sticky_of_kept_cleared_set (step_fIllegal hstep)
  obtain ⟨hreentryStays, hreentryCause⟩ := sticky_of_kept_cleared_set (step_fReentry hstep)
  exact ⟨hillegalStays, hreentryStays, hillegalCause, hreentryCause⟩

/-! ## ERR, CFG, ENC_FIELDS and the queues (R39, R43, R46 to R49) -/

/-- Settles O53, agent by agent; of the commands ENCODE, DECODE, ABORT and RESET write ERR. -/
theorem errWrittenOnlyAtNamedPoints : Obligations.ErrWrittenOnlyAtNamedPoints := by
  unfold Obligations.ErrWrittenOnlyAtNamedPoints
  intro s t hstep
  cases agent_cases hstep with
  | command w rest i t he hd hx =>
    cases hx with
    | overflow code n => exact .inr ⟨rest, .inl ⟨w, code, n, he, hd, .inr rfl⟩⟩
    | queue code n => exact .inr ⟨rest, .inl ⟨w, code, n, he, hd, .inl rfl⟩⟩
    | arm =>
      obtain rfl : w = 0x00000002 := eq_of_decodeCommand hd rfl
      exact .inr ⟨rest, .inr (.inl ⟨he, rfl⟩)⟩
    | abort hbusy =>
      obtain rfl : w = 0x00000004 := eq_of_decodeCommand hd rfl
      exact .inr ⟨rest, .inr (.inr (.inr (.inl ⟨he, hbusy, rfl⟩)))⟩
    | reset =>
      obtain rfl := eq_five_of_decodeCommand_reset hd
      exact .inr ⟨rest, .inr (.inr (.inr (.inr (.inr ⟨he, rfl⟩))))⟩
    | frame _ dir code payload hf => exact absurd hf (decodeCommand_not_frame hd code dir payload)
    | _ => exact .inl rfl
  | decoder rest x q t he hp hq hf =>
    exact hf.err.imp_right fun ⟨hidle, hkind⟩ => ⟨rest, .inr (.inr (.inl ⟨he, hp, hidle, hkind⟩))⟩
  | streamError rest he => exact .inr ⟨rest, .inr (.inr (.inr (.inr (.inl ⟨he, rfl⟩))))⟩
  | _ => exact .inl rfl

/-- Settles O54, agent by agent; of the commands only SETCFG, WFIELD and RESET write any of the three. -/
theorem configAndFieldsHaveOneWriter : Obligations.ConfigAndFieldsHaveOneWriter := by
  unfold Obligations.ConfigAndFieldsHaveOneWriter
  intro s t hstep
  cases agent_cases hstep with
  | command w rest i t he hd hx =>
    cases hx with
    | reset => exact ⟨.inr ⟨w, rest, he, .inl hd⟩, .inr ⟨w, rest, he, .inl hd⟩⟩
    | config a m d hidle => exact ⟨.inr ⟨w, rest, he, .inr ⟨a, d, hd, hidle⟩⟩, .inl rfl⟩
    | wfield idx v => exact ⟨.inl ⟨rfl, rfl⟩, .inr ⟨w, rest, he, .inr ⟨idx, v, hd⟩⟩⟩
    | _ => exact ⟨.inl ⟨rfl, rfl⟩, .inl rfl⟩
  | decoder rest x q t he hp hq hf =>
    obtain ⟨hencFields, -, -, haccept, hencdir, -⟩ := hf.outside
    exact ⟨.inl ⟨haccept, hencdir⟩, .inl hencFields⟩
  | _ => exact ⟨.inl ⟨rfl, rfl⟩, .inl rfl⟩

/-- Without its head, a queue is shorter by that head, or was empty. -/
theorem tail_eq_or_cons {α : Type} (l : List α) : l.tail = l ∨ ∃ x, l = x :: l.tail := by
  cases l with
  | nil => exact .inl rfl
  | cons x l => exact .inr ⟨x, rfl⟩

/-- Settles O55, agent by agent; of the commands ENCODE adds to TXQ, and FLUSH and RESET empty. -/
theorem queuesNeverReorder : Obligations.QueuesNeverReorder := by
  unfold Obligations.QueuesNeverReorder
  intro s t hstep
  cases agent_cases hstep with
  | command w rest i t he hd hx =>
    cases hx with
    | queue code n =>
      refine ⟨.inl rfl, .inr (.inr (.inl ⟨w, rest, code, n, he, hd, ?_⟩))⟩
      rw [← directionByte_eq_ite]
      rfl
    | reset =>
      exact ⟨.inr (.inr (.inr ⟨rfl, w, rest, he, .inl hd⟩)), .inr (.inr (.inr ⟨rfl, w, rest, he, .inl hd⟩))⟩
    | flush tx rx =>
      constructor
      · cases rx with
        | false => exact .inl rfl
        | true => exact .inr (.inr (.inr ⟨rfl, w, rest, he, .inr ⟨tx, hd⟩⟩))
      · cases tx with
        | false => exact .inl rfl
        | true => exact .inr (.inr (.inr ⟨rfl, w, rest, he, .inr ⟨rx, hd⟩⟩))
    | _ => exact ⟨.inl rfl, .inl rfl⟩
  | decoder rest x q t he hp hq hf =>
    obtain ⟨-, -, -, -, -, htxq⟩ := hf.outside
    exact ⟨.inr (.inr (.inl ⟨rest, x, he, hp, by rw [hf.rxq, hq]⟩)), .inl htxq⟩
  | send rest he => exact ⟨.inl rfl, (tail_eq_or_cons s.txq).imp_right fun ⟨b, hb⟩ => .inl ⟨rest, b, he, hb⟩⟩
  | receive rest x he => exact ⟨.inr (.inl ⟨rest, x, he, rfl⟩), .inl rfl⟩
  | _ => exact ⟨.inl rfl, .inl rfl⟩

/-! ## The order of the checks (R308) -/

/-- Settles O25: an illegal word never reaches the BUSY check, and a busy block never reaches ENCODE's own. -/
theorem checksRunInOrder : Obligations.ChecksRunInOrder := by
  unfold Obligations.ChecksRunInOrder
  intro s w rest hbusy he
  refine ⟨fun hillegal => ?illegal, fun code n hw => ?encode⟩
  case illegal =>
    obtain ⟨r, hr⟩ := (decodeCommand_refuses_iff w).2 hillegal
    exact ⟨_, step_illegal he hr, rfl, rfl, rfl⟩
  case encode =>
    rw [wordCE_eq] at hw
    subst hw
    exact ⟨_, (step_command he (decodeCommand_wordCE code n)).trans (exec_encode_busy (by exact hbusy) code n),
      rfl, rfl, rfl, rfl⟩

end Sys2Proof.Machine
end

section
/-! PROOF. The frame rows (R200 to R251): which codes have one, what executing one does, and when a received frame is one. -/

namespace Sys2Proof

/-- Settles O32, from the codes that have no row. -/
theorem frameRowsAreTheCatalog : Obligations.FrameRowsAreTheCatalog := by
  unfold Obligations.FrameRowsAreTheCatalog
  intro code dir payload
  cases hcode : Machine.inCatalog code with
  | false => rw [(Machine.frameInstr_eq_none code dir payload).2 hcode, Option.isSome_none]
  | true =>
    rw [Option.isSome_iff_ne_none, Ne, Machine.frameInstr_eq_none, hcode]
    exact Bool.noConfusion

/-- A frame spells out its parts, so equal frames have equal parts (R100). -/
theorem wireFrame_injective {dir dir' code code' : Byte} {payload payload' : List Byte}
    (h : wireFrame dir code payload = wireFrame dir' code' payload') :
    dir = dir' ∧ code = code' ∧ payload = payload' := by
  simp only [wireFrame_eq, List.cons.injEq, true_and] at h
  obtain ⟨hdir, -, hcode, hbody⟩ := h
  obtain ⟨hpayload, -⟩ := List.append_inj' hbody rfl
  exact ⟨hdir, hcode, hpayload⟩

end Sys2Proof

namespace Sys2Proof.Machine

/-- The row of a catalog code executes as the commit of its frame (R169, R171): `exec_frameInstr`, with UNKNOWN and SHORT
read off the code. -/
theorem frameCompletes_of_frameInstr {mk : Direction → List Byte → Instr} {code : Byte} {minimum : Nat}
    (hrow : ∀ dir payload, frameInstr code dir payload = some (mk dir payload)) (hcatalog : inCatalog code = true)
    (hmin : minFields code = minimum) : Claim.FrameCompletes mk code minimum := by
  intro dir payload s _
  refine ⟨_, exec_frameInstr (hrow dir payload) s, committedFields_getElem payload, ?_⟩
  simp only [State.acceptFrame_eq, unknownFlag, hcatalog, shortFlag, hmin, directionByte_eq_ite]
  rfl

/-- Settles O26: the six codes of the MIN_FIELDS table (R202). -/
theorem countedTelemetryFramesCommit : Obligations.CountedTelemetryFramesCommit := by
  unfold Obligations.CountedTelemetryFramesCommit
  and_intros <;> exact frameCompletes_of_frameInstr (fun _ _ => rfl) rfl rfl

/-- Settles O27: catalog codes without a line in the MIN_FIELDS table. -/
theorem plainTelemetryFramesCommit : Obligations.PlainTelemetryFramesCommit := by
  unfold Obligations.PlainTelemetryFramesCommit
  and_intros <;> exact frameCompletes_of_frameInstr (fun _ _ => rfl) rfl rfl

/-- Settles O28: catalog codes without a line in the MIN_FIELDS table. -/
theorem controlFramesCommit : Obligations.ControlFramesCommit := by
  unfold Obligations.ControlFramesCommit
  and_intros <;> exact frameCompletes_of_frameInstr (fun _ _ => rfl) rfl rfl

/-- Settles O29: catalog codes without a line in the MIN_FIELDS table. -/
theorem maintenanceFramesCommit : Obligations.MaintenanceFramesCommit := by
  unfold Obligations.MaintenanceFramesCommit
  and_intros <;> exact frameCompletes_of_frameInstr (fun _ _ => rfl) rfl rfl

/-- Settles O9: the bytes determine the frame, so the decoded row is that of DEC_DIR, DEC_CODE and DEC_BUF, and executing it
is the commit that phase CHK makes. -/
theorem stepRunsReceivedFrame : Obligations.StepRunsReceivedFrame := by
  unfold Obligations.StepRunsReceivedFrame
  intro s b q rest i he hp hq hb hdecode
  obtain ⟨f, hparse, hrow⟩ := parseFrame_of_decodeFrame hdecode
  obtain ⟨-, hbytes⟩ := eq_wireFrame_of_parseFrame hparse
  rw [List.append_nil] at hbytes
  obtain ⟨hdir, hcode, hpayload⟩ := wireFrame_injective hbytes
  rw [step_chk he hq hp, if_pos hb, exec_frameInstr hrow, hdir, hcode, hpayload]

/-- Settles O30: the frame of no fields has the payload of none, whose checksum is the code. -/
theorem emptyRequestFrames : Obligations.EmptyRequestFrames := by
  unfold Obligations.EmptyRequestFrames
  intro code s hidle hdir
  have hframe : frameOfFields (directionByte s.cfgEncdir) code (s.sendFields (0 : Byte).toNat) =
      [0x24, 0x4D, 0x3C, 0x00, code, code] := by
    have hcheck : checksum 0x00 code [] = code := (checksum_nil 0x00 code).trans BitVec.zero_xor
    rw [hdir]
    change [0x24, 0x4D, 0x3C, 0x00, code, checksum 0x00 code []] = _
    rw [hcheck]
  rw [exec_encode_queues hidle code (by decide), hframe]
  rfl

end Sys2Proof.Machine
end

section
/-! PROOF. Whole frames from DECODE on, with and without garbage before them (R160 to R175), and SEND (R131). -/

namespace Sys2Proof.Machine

/-! ## Decodes of whole frames -/

/-- Settles O43: the checksum byte that decides is the XOR of the bytes from the length byte on. -/
theorem wholeFrameCommitsOrRejects : Obligations.WholeFrameCommitsOrRejects := by
  unfold Obligations.WholeFrameCommitsOrRejects
  intro s d code k payload q rest hp hw ha hl hq he
  obtain ⟨t, hrun, hdecoded⟩ := run_decode_frame hp hw ha hl hq he
  rw [← checksum_eq_xorAll]
  exact ⟨t, hrun, hdecoded.phase, hdecoded.rxq, hdecoded.events, hdecoded.outside, hdecoded.commits, hdecoded.rejects⟩

/-- A valid frame behind its marker: from LEN on the decoder commits it (R166 to R171). -/
theorem run_body_valid {s : State} {code : Byte} {payload : List Byte} {q : List RxItem} {rest : List Event}
    (hl : payload.length ≤ 255) (hp : s.phase = .len) (hw : s.decBuf.wf = true)
    (hq : s.rxq = (BitVec.ofNat 8 payload.length :: code ::
      (payload ++ [checksum (BitVec.ofNat 8 payload.length) code payload])).map .byte ++ q)
    (he : s.events = List.replicate (payload.length + 3) .decoder ++ rest) :
    ∃ t, Claim.RunsTo (payload.length + 3) s t ∧ t.phase = .idle ∧ t.err = .ok ∧ t.rxq = q ∧
      Claim.Committed t s.decDir code payload := by
  obtain ⟨m, -, hrun⟩ := run_body s code _ payload q rest hl hp hw hq he
  exact ⟨_, hrun.trans (congrArg Host.Outcome.next (if_pos rfl)), rfl, rfl, rfl, State.acceptFrame_committed _ _ _ _⟩

/-- What a frame of R143 commits is its fields (R147, R171). -/
theorem committed_fieldBytes {t : State} {d code : Byte} {f : List Half} (hf : f.length ≤ 127)
    (h : Claim.Committed t d code (fieldBytes f)) :
    t.rxCode = code ∧ t.rxDir = d ∧ t.rxLen.toNat = 2 * f.length ∧
      ∀ (i : Nat) (hi : i < 127), t.rxFields[i] = f.getD i 0 := by
  obtain ⟨hfields, hcode, hlen, hdir, -⟩ := h
  rw [fieldBytes_length] at hlen
  refine ⟨hcode, hdir, ?_, fun i hi => ?_⟩
  · rw [hlen, toNat_lengthByte (by omega)]
  · rw [hfields i hi, fieldBytes_fields]

/-- The hunt over garbage and the marker behind it: whatever the garbage ends with, the marker leads to LEN (R174). -/
theorem run_garbage_marker {s : State} {g : List Byte} {d : Byte} {q : List RxItem} {rest : List Event}
    (hp : s.phase = .hunt) (hno : Claim.NoMarker s.cfgAccept g) (ha : Claim.Admits s.cfgAccept d)
    (hq : s.rxq = g.map .byte ++ .byte 0x24 :: .byte 0x4D :: .byte d :: q)
    (he : s.events = List.replicate (g.length + 3) .decoder ++ rest) :
    Claim.RunsTo (g.length + 3) s { s with events := rest, rxq := q, decDir := d, phase := .len } := by
  rw [List.replicate_add, List.append_assoc] at he
  obtain ⟨p, hp', hgarbage⟩ := run_hunting g s _ _ (.inl hp) (by rwa [hp]) hq he
  exact (run_add _ _ hgarbage).trans (run_hunting_marker hp' ha rfl rfl)

/-- Settles O46: DECODE's step, the garbage and the marker, then the frame from its length byte on. -/
theorem garbageBeforeFrameIsSkipped : Obligations.GarbageBeforeFrameIsSkipped := by
  unfold Obligations.GarbageBeforeFrameIsSkipped
  intro s g d code f q rest hp hw ha hf hno hq he
  have hb := fieldBytes_length f
  rw [show g.length + (6 + 2 * f.length) = g.length + 3 + ((fieldBytes f).length + 3) by omega] at he ⊢
  rw [frameOfFields, wireFrame_eq, List.map_append, List.append_assoc] at hq
  rw [List.replicate_add, List.append_assoc] at he
  have hmarker := run_garbage_marker (s := { s with
      events := List.replicate (g.length + 3) .decoder ++ (List.replicate ((fieldBytes f).length + 3) .decoder ++ rest)
      resultPort := none, err := .ok, phase := .hunt }) rfl hno ha hq rfl
  obtain ⟨t, hbody, hidle, herr, hrxq, hcommitted⟩ := run_body_valid (s := { s with
      events := List.replicate ((fieldBytes f).length + 3) .decoder ++ rest
      rxq := (BitVec.ofNat 8 (fieldBytes f).length :: code :: (fieldBytes f ++
        [checksum (BitVec.ofNat 8 (fieldBytes f).length) code (fieldBytes f)])).map .byte ++ q
      resultPort := none, err := .ok, decDir := d, phase := .len }) (by omega) rfl hw rfl rfl
  obtain ⟨hcode, hdir, hlen, hfields⟩ := committed_fieldBytes hf hcommitted
  refine ⟨t, ?run, hidle, herr, hrxq, hcode, hdir, hlen, hfields⟩
  case run =>
    rw [Nat.add_comm 1]
    exact (run_succ (step_decode he hp)).trans ((run_add _ _ hmarker).trans hbody)

/-! ## SEND (R131) -/

/-- WFIELD's word at an index that exists writes the entry and empties the result port (R141; log entry 4). -/
theorem step_wfield {s : State} {i : Nat} (hi : i < 127) {v : Half} {rest : List Event}
    (he : s.events = .host (wordCW (BitVec.ofNat 7 i) v) :: rest) :
    step s = .next { s with events := rest, resultPort := none, encFields := s.encFields.set i v hi } := by
  have hidx : (BitVec.ofNat 7 i).toNat = i := by
    rw [BitVec.toNat_ofNat]
    exact Nat.mod_eq_of_lt (by omega)
  rw [step_command he (decodeCommand_wordCW (fieldIndexOk_ofNat (by omega)) v), exec_wfield (by omega)]
  simp only [hidx, State.setEncField]

/-- The entries once the one at `i` is written and those from `i + 1` on are loaded: those from `i` on are loaded. -/
theorem loaded_cons (enc : Vector Half 127) (v : Half) (fields : List Half) {i j : Nat} (hi : i < 127) (hj : j < 127) :
    (if i + 1 ≤ j then fields.getD (j - (i + 1)) (enc.set i v)[j] else (enc.set i v)[j]) =
      if i ≤ j then (v :: fields).getD (j - i) enc[j] else enc[j] := by
  rcases Nat.lt_trichotomy j i with hlt | rfl | hgt
  · rw [if_neg (by omega), if_neg (by omega), Vector.getElem_set_ne hi hj (by omega)]
  · rw [if_neg (by omega), if_pos (Nat.le_refl j), Vector.getElem_set_self, Nat.sub_self, List.getD_cons_zero]
  · rw [if_pos (by omega), if_pos (by omega), Vector.getElem_set_ne hi hj (by omega),
      show j - i = j - (i + 1) + 1 by omega, List.getD_cons_succ]

/-- The WFIELD commands of SEND load the fields from index `i` on, and keep the other entries. -/
theorem run_fieldWrites (fields : List Half) : ∀ (i : Nat) (s : State) (rest : List Event), i + fields.length ≤ 127 →
    s.events = issueAll (fieldWrites i fields) ++ rest →
    ∃ (enc : Vector Half 127) (port : Option Word),
      Claim.RunsTo fields.length s { s with events := rest, resultPort := port, encFields := enc } ∧
      ∀ (j : Nat) (hj : j < 127), enc[j] = if i ≤ j then fields.getD (j - i) s.encFields[j] else s.encFields[j] := by
  induction fields with
  | nil =>
    intro i s rest _ he
    obtain rfl : s.events = rest := he
    exact ⟨s.encFields, s.resultPort, run_zero s, fun j hj => by rw [List.getD_nil, ite_self]⟩
  | cons v fields ih =>
    intro i s rest hlen he
    rw [List.length_cons] at hlen
    have hi : i < 127 := by omega
    have hstep := step_wfield hi (v := v) (rest := issueAll (fieldWrites (i + 1) fields) ++ rest) he
    obtain ⟨enc, port, hrun, hentries⟩ := ih (i + 1) { s with
      events := issueAll (fieldWrites (i + 1) fields) ++ rest
      resultPort := none
      encFields := s.encFields.set i v hi } rest (by omega) rfl
    exact ⟨enc, port, (run_succ hstep).trans hrun,
      fun j hj => (hentries j hj).trans (loaded_cons s.encFields v fields hi hj)⟩

/-- The commands of SEND, for the field counts it takes (R131). -/
theorem sendCommands_eq_some {code : Byte} {fields : List Half} {is : List Instr}
    (h : sendCommands code fields = some is) :
    fields.length ≤ 127 ∧ is = fieldWrites 0 fields ++ [.encode code (BitVec.ofNat 8 fields.length)] := by
  unfold sendCommands at h
  split at h
  · exact ⟨‹_›, (Option.some.inj h).symm⟩
  · cases h

/-- What ENCODE sends once the fields are loaded from index 0 on is the fields (R142). -/
theorem State.sendFields_eq {s : State} {fields : List Half} (hlen : fields.length ≤ 127)
    (h : ∀ (i : Nat) (hi : i < fields.length), s.encFields[i] = fields[i]) : s.sendFields fields.length = fields := by
  refine List.ext_getElem (s.sendFields_length hlen) fun i _ hi => ?_
  rw [← h i hi]
  simp [State.sendFields]

/-- ENCODE's word on an idle block queues the frame and empties the result port (R142; log entry 4). -/
theorem step_encode_queues {s : State} {code n : Byte} {rest : List Event} (he : s.events = .host (wordCE code n) :: rest)
    (hidle : s.phase = .idle) (hn : n.toNat ≤ 127) :
    step s = .next { s with
      events := rest
      resultPort := none
      txq := s.txq ++ frameOfFields (directionByte s.cfgEncdir) code (s.sendFields n.toNat)
      err := .ok } :=
  (step_command he (decodeCommand_wordCE code n)).trans
    (exec_encode_queues (s := { s with events := rest, resultPort := none }) hidle code hn)

/-- Settles O58: the WFIELD commands load the fields, and ENCODE queues the first `fields.length` entries. -/
theorem sendQueuesTheFieldFrame : Obligations.SendQueuesTheFieldFrame := by
  unfold Obligations.SendQueuesTheFieldFrame
  intro s code fields is rest his hidle he
  obtain ⟨hlen, rfl⟩ := sendCommands_eq_some his
  have hcount := toNat_lengthByte (n := fields.length) (by omega)
  rw [issueAll, List.flatMap_append, List.append_assoc] at he
  obtain ⟨enc, port, hloads, hentries⟩ := run_fieldWrites fields 0 s
    (.host (wordCE code (BitVec.ofNat 8 fields.length)) :: rest) (by omega) he
  have hloaded (i : Nat) (hi : i < 127) : enc[i] = fields.getD i s.encFields[i] := hentries i hi
  have hencode := step_encode_queues (s := { s with
      events := .host (wordCE code (BitVec.ofNat 8 fields.length)) :: rest, resultPort := port, encFields := enc })
    rfl hidle (hcount.trans_le hlen)
  rw [hcount, State.sendFields_eq hlen fun i hi => (hloaded i (by omega)).trans (List.getD_eq_getElem fields _ hi)]
    at hencode
  refine ⟨_, (run_add fields.length 1 hloads).trans (run_succ hencode), hloaded, ?registers⟩
  case registers => rw [← directionByte_eq_ite]

end Sys2Proof.Machine
end

section
/-! PROOF. The schedule and its order (R14, R307), single steps that need no invariant, the vectors of spec/95, and what the
host reads from STATUS (R132, R275). -/

namespace Sys2Proof.Machine

/-! ## Steps of the HOST, DECODER and TRANSPORT -/

/-- Settles O7: eight words and two frames, decoded by evaluation. -/
theorem specVectorsDecode : Obligations.SpecVectorsDecode := by
  unfold Obligations.SpecVectorsDecode
  decide

/-- Settles O8: `step_command` and `step_illegal`. -/
theorem stepRunsIssuedCommand : Obligations.StepRunsIssuedCommand := by
  unfold Obligations.StepRunsIssuedCommand
  exact fun _ _ _ he => ⟨fun _ hd => step_command he hd, fun _ hd => step_illegal he hd⟩

/-- Settles O10: with nothing scheduled there is no event to apply, and RESET keeps the schedule it ran on. -/
theorem scheduleConventions : Obligations.ScheduleConventions := by
  unfold Obligations.ScheduleConventions
  exact ⟨fun s he => by simp only [step, nextEvent, he], fun _ => rfl⟩

/-- Settles O16: DECODE's word, and `exec` by BUSY. -/
theorem decodeArmsIdleDecoder : Obligations.DecodeArmsIdleDecoder := by
  unfold Obligations.DecodeArmsIdleDecoder
  exact ⟨rfl, reservedBitsFault 2, fun _ =>
    ⟨fun hbusy => State.whenIdle_busy hbusy _, fun hidle => State.whenIdle_idle hidle _⟩⟩

/-- Settles O39: `step_waits`. -/
theorem decoderWaitsWithoutAStep : Obligations.DecoderWaitsWithoutAStep := by
  unfold Obligations.DecoderWaitsWithoutAStep
  exact fun _ _ he hwaits => step_waits he hwaits

/-- Settles O41: TRANSPORT's two actions on the queues, with the head of TXQ named. -/
theorem transportMovesQueueEnds : Obligations.TransportMovesQueueEnds := by
  unfold Obligations.TransportMovesQueueEnds
  refine ⟨fun s x rest he => ?receive, fun s b q rest he hq => ?send⟩
  case receive =>
    rw [step_of_events he]
    rfl
  case send =>
    rw [step_of_events he]
    simp only [runEvent, State.transportSend, hq, List.tail_cons]

/-! ## The events of one clocked cycle (R307) -/

/-- No higher rank: the order R307 gives the events of one cycle. -/
def RanksBefore (a b : Event) : Prop := clockRank a ≤ clockRank b

/-- Insertion by rank is the library's ordered insertion. -/
theorem insertByRank_eq_orderedInsert [DecidableRel RanksBefore] (e : Event) (es : List Event) :
    insertByRank e es = es.orderedInsert RanksBefore e := by
  induction es with
  | nil => rfl
  | cons x es ih =>
    rw [insertByRank, ih, List.orderedInsert_cons]
    exact if_congr Iff.rfl rfl rfl

/-- The order of a cycle is the library's insertion sort by rank. -/
theorem cycleOrder_eq_insertionSort [DecidableRel RanksBefore] (es : List Event) :
    cycleOrder es = es.insertionSort RanksBefore := by
  induction es with
  | nil => rfl
  | cons e es ih => rw [cycleOrder, ih, insertByRank_eq_orderedInsert, List.insertionSort_cons]

/-- A command word other than RESET's ranks with the commands. -/
theorem clockRank_host_of_ne {w : Word} (h : w ≠ 0x00000005) : clockRank (.host w) = 3 :=
  if_neg fun hreset => h (eq_five_of_decodeCommand_reset hreset)

/-- Settles O57: an insertion sort is a sorted permutation, and the ranks are R307's. -/
theorem cycleOrderIsTheRanking : Obligations.CycleOrderIsTheRanking := by
  classical
  unfold Obligations.CycleOrderIsTheRanking
  refine ⟨fun es => ?sorted, fun w x hw => ?ranks⟩
  case sorted =>
    have : Std.Total RanksBefore := ⟨fun a b => Nat.le_total (clockRank a) (clockRank b)⟩
    have : IsTrans Event RanksBefore := ⟨fun _ _ _ hab hbc => Nat.le_trans hab hbc⟩
    rw [cycleOrder_eq_insertionSort]
    exact ⟨List.perm_insertionSort RanksBefore es, List.pairwise_insertionSort RanksBefore es⟩
  case ranks =>
    have hreset : clockRank (.host 0x00000005) = 1 := rfl
    rw [hreset, clockRank_host_of_ne hw]
    simp [clockRank]

/-! ## STATUS as the host reads it (R50, R132, R275) -/

/-- The bits of STATUS that the host's decisions read, at R50's places. -/
theorem State.statusWord_bits (s : State) :
    s.statusWord.getLsbD 4 = s.busy ∧ s.statusWord.getLsbD 6 = s.short ∧ s.statusWord.getLsbD 8 = s.fIllegal ∧
      s.statusWord.getLsbD 9 = s.fReentry ∧ s.statusWord.getLsbD 11 = s.txq.isEmpty := by
  simp only [State.statusWord, BitVec.getLsbD_append]
  simp

/-- ERR stands in the low bits of STATUS (R50). -/
theorem exchangeKind_statusWord (s : State) : exchangeKind s.statusWord = errBits s.err := by
  apply BitVec.eq_of_getLsbD_eq
  intro i hi
  simp only [exchangeKind, State.statusWord, BitVec.getLsbD_extractLsb', BitVec.getLsbD_append, hi, Nat.zero_add]
  simp

/-- ERR = 0 is the value OK (R300). -/
theorem errBits_eq_zero (k : ErrKind) : errBits k = 0 ↔ k = .ok := by cases k <;> decide

/-- ERR = 5 is LengthOverflow (R300). -/
theorem errBits_eq_five (k : ErrKind) : errBits k = 5 ↔ k = .lengthOverflow := by cases k <;> decide

/-- The outcome of an exchange in terms of the registers (R275). -/
theorem exchangeSucceeds_statusWord (s : State) :
    exchangeSucceeds s.statusWord = true ↔ s.err = .ok ∧ s.fIllegal = false ∧ s.fReentry = false := by
  obtain ⟨-, -, hillegal, hreentry, -⟩ := s.statusWord_bits
  simp only [exchangeSucceeds, exchangeKind_statusWord, hillegal, hreentry, Bool.and_eq_true, decide_eq_true_eq,
    errBits_eq_zero, Bool.not_eq_true', and_assoc]

/-- Settles O59: each decision is read off the bits of STATUS that it tests. -/
theorem exchangeOutcomeReadsStatus : Obligations.ExchangeOutcomeReadsStatus := by
  unfold Obligations.ExchangeOutcomeReadsStatus
  intro s
  obtain ⟨hbusy, hshort, -, -, htx⟩ := s.statusWord_bits
  have hsucceeds := exchangeSucceeds_statusWord s
  refine ⟨hsucceeds, ?kind, ?skips, ?usable, ?notBusy, ?txEmpty⟩
  case kind => rw [exchangeKind_statusWord, errBits_toNat]
  case skips => rw [exchangeSkipsDecode, exchangeKind_statusWord, decide_eq_true_eq, errBits_eq_five]
  case usable => rw [recordUsable, Bool.and_eq_true, hsucceeds, hshort, Bool.not_eq_true', and_assoc, and_assoc]
  case notBusy => rw [waitDone, hbusy, Bool.not_eq_true', State.busy_eq_false]
  case txEmpty => rw [waitDone, htx, List.isEmpty_iff]

end Sys2Proof.Machine
end
